-- ==== Sys2Proof/Word.lean ====
section
/-! DEFINITION. The word types of the machine (spec/00_scope.md R12: unsigned integers of 8, 16 and 32 bits,
arithmetic modulo 2^8, 2^16, 2^32). -/

namespace Sys2Proof

/-- A byte of a frame: one 8-bit word on the link (R100, R12 `u8`). -/
abbrev Byte := BitVec 8

/-- One FIFO word: up to 16 bits, of which the low `LINK.BITS` are meaningful (R31, R12 `u16`). -/
abbrev Word := BitVec 16

/-- A timer register, a counter or a 32-bit frame field (R12 `u32`). -/
abbrev U32 := BitVec 32

/-- Entries in each of the two link FIFOs (R8 `FIFO_DEPTH`). -/
abbrev fifoDepth : Nat := 8

/-- Bytes of a CommandFrame (R8 `CMD_LEN`). -/
abbrev cmdLen : Nat := 8

end Sys2Proof
end

