-- ==== Sys2Proof/Config.lean ====
section
/-! DEFINITION. What an implementation fixes (the OPEN parameters of spec/00_scope.md R8, one field each) and the free
values (the draws of R13 that no rule fixes). Nothing here is state (R49). -/

namespace Sys2Proof

/-- A CRC-16 variant: `CRC_POLY, CRC_INIT, CRC_REFIN, CRC_REFOUT, CRC_XOROUT` (R8, D2). -/
structure CrcVariant where
  poly   : BitVec 16
  init   : BitVec 16
  refIn  : Bool
  refOut : Bool
  xorOut : BitVec 16
  deriving DecidableEq, Repr, Inhabited

/-- The default the spec suggests, CRC-16/ARC (R8, D2). -/
def CrcVariant.arc : CrcVariant :=
  { poly := 0x8005, init := 0x0000, refIn := true, refOut := true, xorOut := 0x0000 }

/-- A numbering of the commands: `OP_GET_DEVICE_INFO` to `OP_ACKNOWLEDGE_INTERRUPT` (R8, R120). -/
structure Opcodes where
  getDeviceInfo            : Byte
  captureNextTransfer      : Byte
  getTransferInfo          : Byte
  startPeriodicInterrupts  : Byte
  getPeriodicInterruptInfo : Byte
  acknowledgeInterrupt     : Byte
  deriving DecidableEq, Repr, Inhabited

/-- The six values in the order of R120. -/
def Opcodes.toList (o : Opcodes) : List Byte :=
  [o.getDeviceInfo, o.captureNextTransfer, o.getTransferInfo, o.startPeriodicInterrupts, o.getPeriodicInterruptInfo,
    o.acknowledgeInterrupt]

/-- "the six opcode values, pairwise distinct bytes" (R8). -/
def Opcodes.wf (o : Opcodes) : Bool := decide o.toList.Nodup

/-- The default numbering R8 suggests, in which the words of spec/opcode_table.json are written: 0x00 to 0x05 in the order
of R120 (D6). -/
def Opcodes.table : Opcodes :=
  { getDeviceInfo := 0x00, captureNextTransfer := 0x01, getTransferInfo := 0x02, startPeriodicInterrupts := 0x03,
    getPeriodicInterruptInfo := 0x04, acknowledgeInterrupt := 0x05 }

/-- The configuration: every OPEN parameter of R8, one field each (the CRC variant and the opcode values grouped). -/
structure Params where
  /-- `CRC_POLY` to `CRC_XOROUT`. -/
  crc : CrcVariant
  /-- `F_MEAS`, Hz. -/
  fMeas : Nat
  /-- `F_PCLK`, Hz. -/
  fPclk : Nat
  /-- `MAX_CLOCK_CAP`, Hz. -/
  maxClockCap : Nat
  /-- `SLAVE_CLOCK_DIV`. -/
  slaveClockDiv : Nat
  /-- `DEVICE_ID`. -/
  deviceId : U32
  /-- `FW_VERSION`. -/
  fwVersion : U32
  /-- `MIN_BITS`. -/
  minBits : Nat
  /-- `MAX_BITS`. -/
  maxBits : Nat
  /-- `DEFAULT_MODE`, the polarity mode of the idle link. -/
  defaultMode : BitVec 2
  /-- `OP_GET_DEVICE_INFO` to `OP_ACKNOWLEDGE_INTERRUPT`. -/
  opcodes : Opcodes
  /-- `FILLER_BYTE`. -/
  fillerByte : Byte
  /-- `INVALID_LATENCY`. -/
  invalidLatency : U32
  /-- `CAPTURE_OVERFLOW_MATCH`. -/
  captureOverflowMatch : U32
  /-- `CAPTURE_POLL_READS`. -/
  capturePollReads : Nat
  deriving DecidableEq, Repr, Inhabited

/-- The constraints R8 (and D30) puts on the parameters, and `SLAVE_CLOCK_DIV ≥ 1` (R12; assumption log 30). -/
def Params.wf (p : Params) : Bool :=
  decide (1 ≤ p.fMeas ∧ p.fMeas < 2 ^ 32)
    && decide (1 ≤ p.slaveClockDiv)
    && decide (p.minBits ≤ 8 ∧ 8 ≤ p.maxBits ∧ p.maxBits ≤ 16)
    && decide (p.captureOverflowMatch ≠ 0)
    && decide (1 ≤ p.capturePollReads)
    && p.opcodes.wf

/-- The sample configuration of spec/95_test_vectors.md (the spec's own, for illustration): every default R8 suggests
and, where it suggests none, the value of that table. -/
def Params.sample : Params :=
  { crc := CrcVariant.arc, fMeas := 48000000, fPclk := 48000000, maxClockCap := 3000000, slaveClockDiv := 12,
    deviceId := 0x12345678, fwVersion := 0x00010002, minBits := 4, maxBits := 16, defaultMode := 0,
    opcodes := Opcodes.table, fillerByte := 0, invalidLatency := 0xFFFFFFFF, captureOverflowMatch := 0xFFFFFFFF,
    capturePollReads := 4 }

/-- Some parameter set: nothing constrains it, so a claim that mentions it holds for every one (R8 `OPEN`). -/
opaque Config.given : Params

/-- The configuration of the machine: the given one where it meets R8's constraints (a model refuses another, R9);
otherwise the sample. A claim about it holds for every well-formed configuration. -/
def Config.machine : Params := if Config.given.wf then Config.given else Params.sample

/-- FREE VALUE. The word the controller receives when a word starts with `TXF` empty (R81, U3), draw by draw. -/
opaque Config.freeWord : Nat → Word

/-- FREE VALUE. The link mode that a requested mode above 3 gives (R181, U5), draw by draw. -/
opaque Config.freeMode : Nat → BitVec 2

/-- FREE VALUE. `MaxClockFrequency` where the frequency it is to hold does not fit its 32 bits: a function of that frequency,
for which R110 and R372 state no result (assumption log 5). -/
opaque Config.wideMaxClock : Nat → U32

/-- FREE VALUE. `ClockActiveTicks` when the capture status is not `Success` (R201 step 7, U1), draw by draw. -/
opaque Config.freeTicks : Nat → U32

end Sys2Proof
end

