-- ==== Sys2Proof/Machine/State.lean ====
section
/-! DEFINITION. The machine's state as plain data: everything spec/10_state.md gives it (R20 to R49), the position of the
main flow and of the interrupt handler, and two fields of the model's own (`tape`, `draws`). The value after reset. -/

namespace Sys2Proof.Machine

/-! ### The sequencer (R24, R25)

R24 names one state per suspension point and lets a model "keep `SEQ` as data". A step of the main flow is one hardware
primitive (R11), so the positions here are one per primitive; `Seq.value` gives back the name R24 has for each. A sampled
chip-select, an index or a captured value that the pseudocode keeps in a local variable is an argument. -/

/-- Positions inside `Init()` (R372), one per hardware primitive it executes, in its order. -/
inductive InitPt where
  | link | timerReset | edgeDisable | edgeClear | edgeOutHigh | pinPlain | indicatorOff | unmask
  deriving DecidableEq, Repr

/-- Positions inside `Receive` (R170). -/
inductive RecvPt where
  /-- The first look at the receive FIFO. -/
  | entry
  /-- Byte `i` awaited: sample chip-select. -/
  | cs (i : Fin 8)
  /-- Byte `i` awaited: chip-select was sampled as `cs`; read the receive FIFO status. -/
  | rx (i : Fin 8) (cs : Bool)
  /-- Byte `i` is in the FIFO: pop it into `CMD[i]`. -/
  | pop (i : Fin 8)
  deriving DecidableEq, Repr

/-- Who called `DrainExchange` (R15), and so where it returns to. -/
inductive DrainRet where
  /-- `Receive` with a whole frame (R172). -/
  | received
  /-- `Send`, at its end or on early deassertion (R166, R167). -/
  | sent
  /-- The periodic engine: the first byte was not the acknowledge opcode (R258). -/
  | notAcknowledged
  /-- The periodic engine: `difference < 0` (R262). -/
  | differenceNegative
  /-- The periodic engine: the reply ended, `failed` if a flag was raised (R266). -/
  | responded (failed : Bool)
  deriving DecidableEq, Repr

/-- Positions inside `DrainExchange` (R15). -/
inductive DrainPt where
  | cs
  | rx (cs : Bool)
  | pop
  deriving DecidableEq, Repr

/-- Positions inside `Send` after its precondition was met (R162). `i` is the index of the next byte of `F`. -/
inductive SendPt where
  | preload (i : Nat)
  | waitCs
  | mask
  | cs (i : Nat)
  | underrun (i : Nat)
  | space (i : Nat)
  | push (i : Nat)
  | unmask
  deriving DecidableEq, Repr

/-- Positions inside `Capture` after its first primitive (R201). -/
inductive CapPt where
  | timerReset
  | overflowMatch
  | overflowEnable
  | captureArm
  /-- `k` pattern words of the 8 have been pushed (step 3). -/
  | preload (k : Nat)
  | waitCs
  | enable
  /-- `k` reads of `T.CAP` in this polling iteration have been 0 (step 5). -/
  | poll (k : Nat)
  | pollCs
  | pollRx (cs : Bool)
  | approximate
  | cs
  | rx (cs : Bool)
  | pop
  | space
  | push
  | secondCapture
  | overflowTest (cap2 : U32)
  | exitTimer
  | exitLink
  deriving DecidableEq, Repr

/-- Positions inside `Periodic` after its arithmetic (R241). -/
inductive PerPt where
  | armTimerReset | armPeriod | armPeriodEnable | armIrqEnable | armPin | armEdge | armIndicator | armCounter
  | loopTest
  | fifoClear
  /-- `k` filler bytes of the 8 have been pushed. -/
  | fill (k : Nat)
  | edgeClear
  | waitEdge
  | latency
  | deassert
  | mask
  | awaitCs
  | awaitRx (cs : Bool)
  | awaitPop
  /-- The first byte of the exchange was `OP_ACKNOWLEDGE_INTERRUPT`: the command `AcknowledgeInterrupt` is to run. -/
  | classify
  | respondCs (i : Nat)
  | respondEmpty (i : Nat)
  | respondSpace (i : Nat)
  | respondPush (i : Nat)
  /-- `IntUnmask()`, then Draining if `abort`, else the loop test. -/
  | unmask (abort : Bool)
  | drainEdgeDisable | drainEdgeClear | drainTimerReset | drainDeassert | drainPin | drainIndicator
  deriving DecidableEq, Repr

/-- Where the main flow stands. -/
inductive Seq where
  | reset
  | init (p : InitPt)
  | idle
  | recv (p : RecvPt)
  | drain (r : DrainRet) (p : DrainPt)
  | dispatch
  | send (p : SendPt)
  | cap (p : CapPt)
  | per (p : PerPt)
  deriving DecidableEq, Repr

/-- The values of `SEQ` that R24 lists. -/
inductive SeqValue where
  | Reset | Idle | Recv (i : Fin 8) | Dispatch
  | SendPreload | SendWaitCs | SendStream (i : Nat) | SendDrain
  | CapArm | CapWaitCs | CapFirstEdge | CapExchange | CapExit
  | PerArming | PerRunning | PerAwaitAck | PerClassify | PerRespond (i : Nat) | PerDraining
  deriving DecidableEq, Repr

/-! ### Where the handler stands (R346, R89) -/

/-- The handler `TH`: not running, or about to take its second, third or fourth action. Its first action clears
`T.IRQ_PEND`. It is atomic for the main flow and not for the timer and the controller (R89). -/
inductive HandlerPt where
  | notRunning
  | decrement
  | stopPeriod
  | stopInterrupt
  deriving DecidableEq, Repr

/-! ### Registers -/

/-- `TRANSFER_RESULT.Status`, `C.STATUS` (R26, R333). -/
inductive CaptureStatus where
  | success | edgeNotDetected | overflow
  deriving DecidableEq, Repr

/-- `DEVICE_INFO` (R21, R110). -/
structure DeviceInfo where
  deviceId                  : U32
  firmwareVersion           : U32
  maxClockFrequency         : U32
  measurementClockFrequency : U32
  minDataBitLength          : Byte
  maxDataBitLength          : Byte
  deriving DecidableEq, Repr

/-- `TRANSFER_RESULT` (R21, R112). -/
structure TransferResult where
  checksum         : BitVec 16
  elementCount     : U32
  mismatchIndex    : U32
  clockActiveTicks : U32
  status           : CaptureStatus
  deriving DecidableEq, Repr

/-- `ISR_RESULT` (R21, R114); `status` is the bitset of R332. -/
structure IsrResult where
  totalEdges            : U32
  beforeDeadline        : U32
  afterDeadline         : U32
  alreadyAcknowledged   : U32
  status                : Byte
  deriving DecidableEq, Repr

/-- The working registers `C.*` of the capture engine (R22). -/
structure CaptureRegs where
  bits     : BitVec 5
  send0    : Word
  recv0    : Word
  rxValue  : U32
  txIndex  : U32
  crc      : BitVec 16
  mismatch : Option U32
  cap1     : U32
  status   : CaptureStatus
  deriving DecidableEq, Repr

/-- The working registers `P.*` of the periodic engine (R23). `COUNTDOWN`, which two agents write, is a field of its
own in `State`. -/
structure PeriodicRegs where
  period  : U32
  total   : U32
  lastAck : U32
  before  : U32
  after   : U32
  dup     : U32
  latency : U32
  deriving DecidableEq, Repr

/-- The link's registers (R32, R35). `LINK.ROLE` is hardwired and so is no field: see `linkRole`. -/
structure Link where
  mode     : BitVec 2
  bits     : BitVec 5
  inflight : Bool
  falls    : BitVec 5
  out      : Word
  deriving DecidableEq, Repr

/-- The timer's registers `T.*` (R36, R42). -/
structure Timer where
  cnt     : U32
  en      : Bool
  per     : U32
  perEn   : Bool
  ovf     : U32
  ovfEn   : Bool
  cap     : U32
  capArm  : Bool
  emo     : Bool
  irqEn   : Bool
  irqPend : Bool
  deriving DecidableEq, Repr

/-- The falling-edge detector `EDGE.EN`, `EDGE.STATUS` (R38). -/
structure EdgeDetector where
  en     : Bool
  status : Bool
  deriving DecidableEq, Repr

/-- `PIN_FUNC` (R40). -/
inductive PinFunc where
  | matchOutput | plainIO
  deriving DecidableEq, Repr

/-- What the log port has emitted (R44). -/
inductive LogEvent where
  | sendTxNotEmpty | sendUnderrun
  deriving DecidableEq, Repr

/-- One turn of one agent (R10). The controller's turns are the steps of R81 to R85; the host's are the two calls of
R374. -/
inductive Move where
  | main | handler | tick
  | wordStart | sckFall | wordEnd (c : Word) | csAssert | csDeassert
  | callInit | callPoll
  deriving DecidableEq, Repr

/-- The whole machine. The last three fields are no state of the spec's: R49 calls the configuration, the controller's choices
and the speed of the agents "inputs of the step relation", and the step here is a function of the state alone. -/
structure State where
  /-- `SEQ` (R24). -/
  seq : Seq
  /-- Where `TH` stands (R346). -/
  handler : HandlerPt
  /-- `CMD` (R21). -/
  cmd : Vector Byte 8
  /-- `DEVICE_INFO` (R21). -/
  deviceInfo : DeviceInfo
  /-- `TRANSFER_RESULT` (R21). -/
  transferResult : TransferResult
  /-- `ISR_RESULT` (R21). -/
  isrResult : IsrResult
  /-- The scratch buffer `F` (R30). -/
  frame : List Byte
  /-- The scratch buffer `A` (R30). -/
  reply : List Byte
  /-- `C.*` (R22). -/
  cap : CaptureRegs
  /-- `P.*` (R23). -/
  per : PeriodicRegs
  /-- `COUNTDOWN` (R23). -/
  countdown : U32
  /-- The input `CS`: true when asserted (R34). -/
  cs : Bool
  /-- `TXF`, oldest word first (R31). -/
  txf : List Word
  /-- `RXF`, oldest word first (R31). -/
  rxf : List Word
  /-- `LINK.*` (R32, R35). -/
  link : Link
  /-- `T.*` (R36). -/
  timer : Timer
  /-- `EDGE.*` (R38). -/
  edge : EdgeDetector
  /-- `IMASK` (R39). -/
  imask : Bool
  /-- `PIN_FUNC` (R40). -/
  pinFunc : PinFunc
  /-- `IND` (R43). -/
  ind : Bool
  /-- The history of the port `LOG`, oldest first (R44). -/
  log : List LogEvent
  /-- MODEL'S OWN: the agents' turns still to come, next first. Every finite interleaving of R88 is some tape. -/
  tape : List Move
  /-- MODEL'S OWN: how many free values have been drawn. -/
  draws : Nat
  /-- INPUT OF THE STEP RELATION: the opcode values the machine is configured with (R8, R49), written by no step
  (assumption log 4). -/
  opcodes : Opcodes
  deriving DecidableEq, Repr

/-! ### Why a step can stop -/

/-- A step never ends in a fault: "None of them is `fault`: the hardware has no trap to deliver" (spec/93, R330). No
constructor, so nobody raises one; nothing is lost by it. -/
inductive Fault where
  deriving DecidableEq, Repr

/-- The refusals: the cases spec/93_implementation_defined.md treats as `refuse` (the model has no move). Each is SAFE:
a claim about a run that meets one becomes unprovable, never false. -/
inductive Refusal where
  /-- An instruction without a meaning, by its mnemonic; raised only by a refused arm of `exec` (there is none). Safe. -/
  | notModelled (mnemonic : String)
  /-- `TxPush` with `TXF` full (U6, R72); raised by `txPush`. No rule of the spec leads to it. Safe. -/
  | txPushFull
  /-- `RxPop` with `RXF` empty (U6, R73); raised by `rxPop`. No rule of the spec leads to it. Safe. -/
  | rxPopEmpty
  /-- `LinkConfigure` with a word in flight (U7, R181); raised by `linkConfigure`. Safe. -/
  | linkConfigureInFlight
  /-- The host calls `Init()` a second time (U8, R374); raised by `hostInit`. Safe. -/
  | initTwice
  /-- The host calls `Poll()` before `Init()` has returned (U8, R374); raised by `hostPoll`. Safe. -/
  | pollBeforeInit
  /-- The host calls `Poll()` while a call of it has not returned (U8, R374); raised by `hostPoll`. Safe. -/
  | pollReentered
  /-- The host calls from the handler (U8, R374); raised by `hostInit` and `hostPoll`. Safe. -/
  | callFromHandler
  deriving DecidableEq, Repr

/-- What a step answers. -/
abbrev Out := Host.Outcome State Fault Refusal

/-! ### Reset (R48) -/

/-- "all fields 0 (so `Status = Success`, counts 0)" (R48). -/
def TransferResult.zero : TransferResult :=
  { checksum := 0, elementCount := 0, mismatchIndex := 0, clockActiveTicks := 0, status := .success }

/-- "all fields 0" (R48). -/
def IsrResult.zero : IsrResult :=
  { totalEdges := 0, beforeDeadline := 0, afterDeadline := 0, alreadyAcknowledged := 0, status := 0 }

/-- The machine right after power-on, before `Init()`: the table of R48. What R48 leaves unspecified is 0 (U2 allows
it; assumption log 8); the tape is empty and nothing has been drawn. The
opcode values are those of the configuration. -/
def State.reset : State :=
  { seq := .reset
    handler := .notRunning
    cmd := Vector.replicate 8 0
    deviceInfo :=
      { deviceId := 0, firmwareVersion := 0, maxClockFrequency := 0, measurementClockFrequency := 0,
        minDataBitLength := 0, maxDataBitLength := 0 }
    transferResult := TransferResult.zero
    isrResult := IsrResult.zero
    frame := []
    reply := []
    cap :=
      { bits := 0, send0 := 0, recv0 := 0, rxValue := 0, txIndex := 0, crc := 0, mismatch := none, cap1 := 0,
        status := .success }
    per := { period := 0, total := 0, lastAck := 0, before := 0, after := 0, dup := 0, latency := 0 }
    countdown := 0
    cs := false
    txf := []
    rxf := []
    link := { mode := 0, bits := 0, inflight := false, falls := 0, out := 0 }
    timer :=
      { cnt := 0, en := false, per := 0, perEn := false, ovf := 0, ovfEn := false, cap := 0, capArm := false,
        emo := true, irqEn := false, irqPend := false }
    edge := { en := false, status := false }
    imask := false
    pinFunc := .plainIO
    ind := false
    log := []
    tape := []
    draws := 0
    opcodes := Config.machine.opcodes }

end Sys2Proof.Machine
end

