-- ==== Sys2Proof/Machine/Flags.lean ====
section
/-! DEFINITION. Every status the spec lets a rule read or set: the hardware status bits (R27), the session bitset (R332),
the capture codes (R333), the interrupt's start condition (R345), the names of `SEQ` (R24) and the output pins. -/

namespace Sys2Proof.Machine

/-! ### Hardware status (R27, R33, R34, R38) -/

/-- `CsAsserted()` (R34). -/
def csAsserted (s : State) : Bool := s.cs

/-- `TxEmpty()`: "true when `TXF` holds no word" (R33). -/
def txEmpty (s : State) : Bool := s.txf.isEmpty

/-- `TxNotFull()`: "true when `TXF` holds fewer than 8 words" (R33). -/
def txNotFull (s : State) : Bool := decide (s.txf.length < fifoDepth)

/-- `RxNotEmpty()`: "true when `RXF` holds at least one word" (R33). -/
def rxNotEmpty (s : State) : Bool := !s.rxf.isEmpty

/-- `EdgeStatus()` (R38). -/
def edgeStatus (s : State) : Bool := s.edge.status

/-- `LINK.ROLE`, "hardwired `Slave`" (R35). -/
inductive LinkRole where
  | slave
  deriving DecidableEq, Repr

/-- The read of `LINK.ROLE` (R35, R181 "`LINK.ROLE` stays Slave"). -/
def linkRole (_ : State) : LinkRole := .slave

/-! ### The session bitset `ISR_RESULT.Status` (R332) -/

/-- The five anomalies, in BT's order. -/
inductive Anomaly where
  | arithmeticOverflow | transmitUnderrun | incompleteTransmit | incompleteReceive | notAcknowledged
  deriving DecidableEq, Repr

/-- The bit of an anomaly: 0x01, 0x02, 0x04, 0x08, 0x10 (R332). -/
def Anomaly.bit : Anomaly → Byte
  | .arithmeticOverflow => 0x01
  | .transmitUnderrun => 0x02
  | .incompleteTransmit => 0x04
  | .incompleteReceive => 0x08
  | .notAcknowledged => 0x10

/-- `raise X`: `ISR_RESULT.Status <- ISR_RESULT.Status | bit(X)` (R241). -/
def raiseAnomaly (x : Anomaly) (s : State) : State :=
  { s with isrResult := { s.isrResult with status := s.isrResult.status ||| x.bit } }

/-! ### The capture status (R333) -/

/-- The code of a capture status: 0, 1, 2 (R333). -/
def CaptureStatus.code : CaptureStatus → Byte
  | .success => 0
  | .edgeNotDetected => 1
  | .overflow => 2

/-! ### The interrupt (R345) -/

/-- `TH` "may start exactly when `T.IRQ_PEND = 1` and `T.IRQ_EN = 1` and `IMASK = 0`" (R345). -/
def handlerMayStart (s : State) : Bool := s.timer.irqPend && s.timer.irqEn && !s.imask

/-! ### Output pins (R40, R41, R45) -/

/-- The level of `EDGE_OUT`, true for high: it follows `T.EMO` with `MatchOutput` and is high with `PlainIO` (R40). -/
def edgeOut (s : State) : Bool :=
  match s.pinFunc with
  | .matchOutput => s.timer.emo
  | .plainIO => true

/-- `SDO` at the word level: `LINK.OUT` (R45). -/
def sdo (s : State) : Word := s.link.out

/-! ### The names of `SEQ` (R24) -/

/-- R24's name for a position of the main flow. Inside `Init()` the name is `Reset`; `Dispatch` includes the wait for
the exchange to end, when a whole frame is in `CMD`; the reply's last drain and the unmask are `PerRespond 8`. -/
def Seq.value : Seq → SeqValue
  | .reset => .Reset
  | .init _ => .Reset
  | .idle => .Idle
  | .recv .entry => .Idle
  | .recv (.cs i) => .Recv i
  | .recv (.rx i _) => .Recv i
  | .recv (.pop i) => .Recv i
  | .drain .received _ => .Dispatch
  | .drain .sent _ => .SendDrain
  | .drain .notAcknowledged _ => .PerAwaitAck
  | .drain .differenceNegative _ => .PerClassify
  | .drain (.responded _) _ => .PerRespond 8
  | .dispatch => .Dispatch
  | .send (.preload _) => .SendPreload
  | .send .waitCs => .SendWaitCs
  | .send .mask => .SendWaitCs
  | .send (.cs i) => .SendStream i
  | .send (.underrun i) => .SendStream i
  | .send (.space i) => .SendStream i
  | .send (.push i) => .SendStream i
  | .send .unmask => .SendDrain
  | .cap .timerReset => .CapArm
  | .cap .overflowMatch => .CapArm
  | .cap .overflowEnable => .CapArm
  | .cap .captureArm => .CapArm
  | .cap (.preload _) => .CapArm
  | .cap .waitCs => .CapWaitCs
  | .cap .enable => .CapWaitCs
  | .cap (.poll _) => .CapFirstEdge
  | .cap .pollCs => .CapFirstEdge
  | .cap (.pollRx _) => .CapFirstEdge
  | .cap .approximate => .CapFirstEdge
  | .cap .cs => .CapExchange
  | .cap (.rx _) => .CapExchange
  | .cap .pop => .CapExchange
  | .cap .space => .CapExchange
  | .cap .push => .CapExchange
  | .cap .secondCapture => .CapExit
  | .cap (.overflowTest _) => .CapExit
  | .cap .exitTimer => .CapExit
  | .cap .exitLink => .CapExit
  | .per .armTimerReset => .PerArming
  | .per .armPeriod => .PerArming
  | .per .armPeriodEnable => .PerArming
  | .per .armIrqEnable => .PerArming
  | .per .armPin => .PerArming
  | .per .armEdge => .PerArming
  | .per .armIndicator => .PerArming
  | .per .armCounter => .PerArming
  | .per .loopTest => .PerRunning
  | .per .fifoClear => .PerRunning
  | .per (.fill _) => .PerRunning
  | .per .edgeClear => .PerRunning
  | .per .waitEdge => .PerRunning
  | .per .latency => .PerAwaitAck
  | .per .deassert => .PerAwaitAck
  | .per .mask => .PerAwaitAck
  | .per .awaitCs => .PerAwaitAck
  | .per (.awaitRx _) => .PerAwaitAck
  | .per .awaitPop => .PerAwaitAck
  | .per .classify => .PerClassify
  | .per (.respondCs i) => .PerRespond i
  | .per (.respondEmpty i) => .PerRespond i
  | .per (.respondSpace i) => .PerRespond i
  | .per (.respondPush i) => .PerRespond i
  | .per (.unmask _) => .PerRespond 8
  | .per .drainEdgeDisable => .PerDraining
  | .per .drainEdgeClear => .PerDraining
  | .per .drainTimerReset => .PerDraining
  | .per .drainDeassert => .PerDraining
  | .per .drainPin => .PerDraining
  | .per .drainIndicator => .PerDraining

end Sys2Proof.Machine
end

