-- ==== Sys2Proof/Machine/Bytes.lean ====
section
/-! DEFINITION. Byte order and buffer access: little-endian everywhere (spec/20_memory.md R71), the buffer forms
`MemRead` and `MemWrite` and the packing functions of spec/00_scope.md R12 and R13. -/

namespace Sys2Proof.Machine

/-- Byte `k` of a value, counted from the least significant. -/
def byteOf {w : Nat} (v : BitVec w) (k : Nat) : Byte := BitVec.ofNat 8 (v.toNat >>> (8 * k))

/-- `le16(v)`: 2 bytes, least significant first (R12). -/
def le16 (v : BitVec 16) : List Byte := [byteOf v 0, byteOf v 1]

/-- `le32(v)`: 4 bytes, least significant first (R12). -/
def le32 (v : U32) : List Byte := [byteOf v 0, byteOf v 1, byteOf v 2, byteOf v 3]

/-- The 16-bit value of two bytes, the first the less significant (`rd16`, R12). -/
def rd16 (b0 b1 : Byte) : BitVec 16 := b0.setWidth 16 ||| (b1.setWidth 16 <<< 8)

/-- The 32-bit value of four bytes, the first the least significant (`rd32`, R12). -/
def rd32 (b0 b1 b2 b3 : Byte) : U32 :=
  b0.setWidth 32 ||| (b1.setWidth 32 <<< 8) ||| (b2.setWidth 32 <<< 16) ||| (b3.setWidth 32 <<< 24)

/-- `MemWrite(B + off, n, v)` of R13, the `n` bytes of `v` given as `bytes`: they replace as many bytes of the
buffer from `off` on. -/
def memWrite (buf : List Byte) (off : Nat) (bytes : List Byte) : List Byte :=
  buf.take off ++ bytes ++ buf.drop (off + bytes.length)

/-- The `n` bytes of a natural number, least significant first: a 64-bit view of a CommandFrame spelt as the bytes in
wire order (R119). -/
def bytesOfNat : Nat → Nat → List Byte
  | 0, _ => []
  | n + 1, v => BitVec.ofNat 8 v :: bytesOfNat n (v / 256)

end Sys2Proof.Machine
end

