-- ==== Sys2Proof/Machine/Operands.lean ====
section
/-! DEFINITION. What operands and registers are computed to: word widths and masks, the pattern words of a capture, the
arithmetic of arming a periodic session and of classifying an acknowledgement. All of it is unsigned unless said. -/

namespace Sys2Proof.Machine

/-! ### Word length -/

/-- `EffBits(L)`: the requested length where it is supported, "otherwise 8" (R180). -/
def effBits (p : Params) (l : Byte) : BitVec 5 :=
  if p.minBits ≤ l.toNat ∧ l.toNat ≤ p.maxBits then BitVec.ofNat 5 l.toNat else 8

/-- `mask(L) = 2^L - 1` (R12) as a word. -/
def mask (bits : BitVec 5) : Word := BitVec.ofNat 16 (2 ^ bits.toNat - 1)

/-! ### Capture -/

/-- `(zext_32(base) + k) & mask(bits)`: the pattern word of index `k`, sent (R203) or expected (R212). -/
def patternWord (bits : BitVec 5) (base : Word) (k : U32) : Word :=
  (base.setWidth 32 + k).setWidth 16 &&& mask bits

/-- The next word the harness expects, `C.RXVALUE & M` (R201 step 6). -/
def expectedWord (c : CaptureRegs) : Word := c.rxValue.setWidth 16 &&& mask c.bits

/-- The next word the harness sends, `(zext_32(C.RECV0) + C.TXINDEX) & M` (R201 steps 3 and 6). -/
def nextSendWord (c : CaptureRegs) : Word := patternWord c.bits c.recv0 c.txIndex

/-- The index of the word now compared, and at the end the count: `C.RXVALUE - zext_32(C.SEND0)` (R215). -/
def elementIndex (c : CaptureRegs) : U32 := c.rxValue - c.send0.setWidth 32

/-! ### Arming (R242, R243) -/

/-- The result of the arming arithmetic. -/
inductive Arming where
  /-- "refused with `ArithmeticOverflow`". -/
  | refuse
  /-- Representable: the period in ticks and the total edge count (0 means nothing to arm). -/
  | accept (period total : U32)
  deriving DecidableEq, Repr

/-- `period = F_MEAS div freq`, `total = freq × dur` over the integers; refused "when `freq = 0` ..., when `period = 0`
..., or when `total ≥ 2^32`" (R242). -/
def arming (fMeas : Nat) (freq : U32) (dur : Word) : Arming :=
  if freq = 0 then .refuse
  else if fMeas / freq.toNat = 0 ∨ 2 ^ 32 ≤ freq.toNat * dur.toNat then .refuse
  else .accept (BitVec.ofNat 32 (fMeas / freq.toNat)) (BitVec.ofNat 32 (freq.toNat * dur.toNat))

/-! ### Classification (R260, R261) -/

/-- How an acknowledgement is graded, with the latency it is answered. -/
inductive AckClass where
  /-- `difference < 0`, "an impossible state". -/
  | impossible
  /-- `difference = 0`. -/
  | duplicate
  /-- `difference = 1`. -/
  | onTime (latency : U32)
  /-- `difference > 1`. -/
  | late (latency : U32)
  deriving DecidableEq, Repr

/-- `difference <- P.LASTACK - COUNTDOWN`, "computed over the integers from two 32-bit unsigned values" (R261). -/
def ackDifference (lastAck countdown : U32) : Int := (lastAck.toNat : Int) - (countdown.toNat : Int)

/-- `(difference - 1) × period + latency`, modulo 2^32 (R260, R261). -/
def lateLatency (difference : Int) (period latency : U32) : U32 :=
  BitVec.ofInt 32 (difference - 1) * period + latency

/-- Grading by `difference` (R260). -/
def classifyAck (lastAck countdown period latency : U32) : AckClass :=
  if ackDifference lastAck countdown < 0 then .impossible
  else if ackDifference lastAck countdown = 0 then .duplicate
  else if ackDifference lastAck countdown = 1 then .onTime latency
  else .late (lateLatency (ackDifference lastAck countdown) period latency)

/-- The AcknowledgementReply: `Latency`, then `Check = ~Latency` (R116). -/
def ackReply (latency : U32) : List Byte := le32 latency ++ le32 (~~~latency)

end Sys2Proof.Machine
end

