-- ==== Sys2Proof/Machine/Ops.lean ====
section
/-! DEFINITION. The hardware primitives of the main flow (spec/00_scope.md R14), the access rules of the FIFOs
(spec/20_memory.md R72 to R74), and the entry and the return of the one interrupt (spec/60_exceptions.md R346 to R348).
The only memory of the machine is its FIFOs, buffers and registers (R46). -/

namespace Sys2Proof.Machine

/-- What follows a primitive that answered a next state: local computation (R11). -/
def onNext (o : Out) (f : State → State) : Out :=
  match o with
  | .next s => .next (f s)
  | .fault r => .fault r
  | .refused r => .refused r

/-- `SEQ <- q` (R13). -/
def goTo (q : Seq) (s : State) : State := { s with seq := q }

/-! ### FIFOs -/

/-- `TxPush(w)`: `w & mask(LINK.BITS)` at the tail of `TXF` (R72); a full `TXF` is refused (U6). -/
def txPush (w : Word) (s : State) : Out :=
  if s.txf.length < fifoDepth then .next { s with txf := s.txf ++ [w &&& mask s.link.bits] }
  else .refused .txPushFull

/-- `RxPop()`: the oldest word of `RXF`, removed, given to `k` (R73); an empty `RXF` is refused (U6). -/
def rxPop (k : Word → State → State) (s : State) : Out :=
  match s.rxf with
  | [] => .refused .rxPopEmpty
  | w :: ws => .next (k w { s with rxf := ws })

/-- `FifoClear()`: both FIFOs emptied (R74). -/
def fifoClear (s : State) : State := { s with txf := [], rxf := [] }

/-! ### Link configuration -/

/-- The mode `LinkConfigure` writes: `mode[1:0]` up to 3, a free value above (R181, U5). -/
def configuredMode (mode : Byte) (s : State) : BitVec 2 :=
  if mode.toNat ≤ 3 then mode.setWidth 2 else Config.freeMode s.draws

/-- `LinkConfigure(mode, L)` (R181); refused while a word is in flight (U7). -/
def linkConfigure (p : Params) (mode l : Byte) (s : State) : Out :=
  if s.link.inflight then .refused .linkConfigureInFlight
  else .next
    { s with
      link := { s.link with mode := configuredMode mode s, bits := effBits p l }
      txf := []
      rxf := []
      draws := if mode.toNat ≤ 3 then s.draws else s.draws + 1 }

/-- The idle configuration `LinkConfigure(DEFAULT_MODE, 8)` (R182). -/
def linkConfigureIdle (p : Params) (s : State) : Out := linkConfigure p (p.defaultMode.setWidth 8) 8 s

/-! ### Timer (R355, R356) -/

/-- `TimerReset()` (R356): "`T.PER`, `T.OVF` and `T.EMO` keep their values". -/
def timerReset (s : State) : State :=
  { s with
    timer :=
      { s.timer with
        en := false, cnt := 0, cap := 0, capArm := false, perEn := false, ovfEn := false, irqEn := false,
        irqPend := false } }

def setPeriod (v : U32) (s : State) : State := { s with timer := { s.timer with per := v } }
def setPeriodEnable (b : Bool) (s : State) : State := { s with timer := { s.timer with perEn := b } }
def setOverflow (v : U32) (s : State) : State := { s with timer := { s.timer with ovf := v } }
def setOverflowEnable (b : Bool) (s : State) : State := { s with timer := { s.timer with ovfEn := b } }
def setCaptureArm (b : Bool) (s : State) : State := { s with timer := { s.timer with capArm := b } }
def setIrqEnable (b : Bool) (s : State) : State := { s with timer := { s.timer with irqEn := b } }
def setCounterEnable (b : Bool) (s : State) : State := { s with timer := { s.timer with en := b } }

/-! ### Edge detector, pins, interrupt mask, log (R38 to R44) -/

/-- `EdgeEnable()`, `EdgeDisable()` (R38). -/
def setEdgeEnable (b : Bool) (s : State) : State := { s with edge := { s.edge with en := b } }

/-- `EdgeClear()` (R38). -/
def edgeClear (s : State) : State := { s with edge := { s.edge with status := false } }

/-- `EdgeOutDeassert()`: `T.EMO <- 1` (R41). -/
def edgeOutDeassert (s : State) : State := { s with timer := { s.timer with emo := true } }

/-- `PinSelect(f)` (R40). -/
def pinSelect (f : PinFunc) (s : State) : State := { s with pinFunc := f }

/-- `IntMask()`, `IntUnmask()` (R39). -/
def setIntMask (b : Bool) (s : State) : State := { s with imask := b }

/-- `IndicatorOn()`, `IndicatorOff()` (R43). -/
def setIndicator (b : Bool) (s : State) : State := { s with ind := b }

/-- `Log(event)`: emitted on the port, "changes no state of this spec" (R44). -/
def logEvent (e : LogEvent) (s : State) : State := { s with log := s.log ++ [e] }

/-! ### Taking the interrupt, and returning from it (R346 to R348)

Entry "saves nothing a rule can see and changes no mode, mask or stack" (R347): the main flow's position stays where it is,
and the main flow takes no step until the return (R89). -/

/-- Entry: the handler's first action clears `T.IRQ_PEND`. -/
def enterHandler (s : State) : State :=
  { s with timer := { s.timer with irqPend := false }, handler := .decrement }

/-- Return: the main flow "resumes at the step it was about to take" (R347, R348). -/
def returnFromHandler (s : State) : State := { s with handler := .notRunning }

end Sys2Proof.Machine
end

