-- ==== Sys2Proof/Machine/Controller.lean ====
section
/-! DEFINITION. The link as the controller `CT` moves it (spec/20_memory.md R80 to R85). A step whose precondition does not
hold is none the controller can take (R80): its turn then changes nothing. -/

namespace Sys2Proof.Machine

/-- `WordStart` (R81): the head of `TXF` goes out; from an empty `TXF` a free word does (U3). -/
def wordStart (s : State) : State :=
  if s.cs && !s.link.inflight then
    match s.txf with
    | w :: ws => { s with txf := ws, link := { s.link with out := w, inflight := true, falls := s.link.bits } }
    | [] =>
      { s with
        link :=
          { s.link with out := Config.freeWord s.draws &&& mask s.link.bits, inflight := true, falls := s.link.bits }
        draws := s.draws + 1 }
  else s

/-- What a falling clock edge does to the timer: `T.CAP <- T.CNT` if the channel is armed and the counter runs (R82). -/
def captureLatch (t : Timer) : Timer := if t.capArm && t.en then { t with cap := t.cnt } else t

/-- What a falling clock edge does to the edge detector (R82, R38). -/
def edgeDetect (e : EdgeDetector) : EdgeDetector := if e.en then { e with status := true } else e

/-- `SckFall` (R82). -/
def sckFall (s : State) : State :=
  if s.link.inflight && decide (s.link.falls ≠ 0) then
    { s with
      timer := captureLatch s.timer
      edge := edgeDetect s.edge
      link := { s.link with falls := s.link.falls - 1 } }
  else s

/-- `WordEnd(c)` (R83): the word is appended to `RXF`, or lost when `RXF` is full (U4). -/
def wordEnd (c : Word) (s : State) : State :=
  if s.link.inflight && decide (s.link.falls = 0) then
    { s with
      rxf := if s.rxf.length < fifoDepth then s.rxf ++ [c &&& mask s.link.bits] else s.rxf
      link := { s.link with inflight := false } }
  else s

/-- `CsAssert` (R84). -/
def csAssert (s : State) : State := if s.cs then s else { s with cs := true }

/-- `CsDeassert` (R85): not inside a word. -/
def csDeassert (s : State) : State := if s.cs && !s.link.inflight then { s with cs := false } else s

end Sys2Proof.Machine
end

