-- ==== Sys2Proof/Machine/Crc.lean ====
section
/-! DEFINITION. The Checksum Engine (spec/40_crc.md): `CrcByte`, `CrcFinish`, `Compute`, the bit-reflected form for the
default variant, and the sealing and validation of a ResponseFrame (spec/41_framer.md R161, spec/30_encoding.md R106).
All pure: "it reads no state ..., writes none, raises nothing, and is total" (R140). -/

namespace Sys2Proof.Machine

/-- `n` of the 8 repetitions of R142: shift left, and fold the polynomial in when bit 15 was set. -/
def crcShift (poly : BitVec 16) : Nat → BitVec 16 → BitVec 16
  | 0, c => c
  | n + 1, c => crcShift poly n (if c.getLsbD 15 then (c <<< 1) ^^^ poly else c <<< 1)

/-- `CrcByte(c, b)`, the general form (R142). -/
def crcByte (v : CrcVariant) (c : BitVec 16) (b : Byte) : BitVec 16 :=
  crcShift v.poly 8 (c ^^^ ((if v.refIn then b.reverse else b).setWidth 16 <<< 8))

/-- `CrcFinish(c)` (R144). -/
def crcFinish (v : CrcVariant) (c : BitVec 16) : BitVec 16 :=
  (if v.refOut then c.reverse else c) ^^^ v.xorOut

/-- The running register after the bytes, from `c` (R145). -/
def crcFold (v : CrcVariant) (c : BitVec 16) (bytes : List Byte) : BitVec 16 := bytes.foldl (crcByte v) c

/-- `Compute(bytes, length)` (R141). -/
def compute (v : CrcVariant) (bytes : List Byte) : BitVec 16 := crcFinish v (crcFold v v.init bytes)

/-- `n` of the 8 repetitions of the bit-reflected form: shift right, polynomial 0xA001 (R142). -/
def crcShiftArc : Nat → BitVec 16 → BitVec 16
  | 0, c => c
  | n + 1, c => crcShiftArc n (if c.getLsbD 0 then (c >>> 1) ^^^ 0xA001 else c >>> 1)

/-- `CrcByteArc(c, b)` (R142). -/
def crcByteArc (c : BitVec 16) (b : Byte) : BitVec 16 := crcShiftArc 8 (c ^^^ b.setWidth 16)

/-- `Compute` of the default variant in the bit-reflected form: `CRC_INIT = 0` and no final step (R142, R144). -/
def computeArc (bytes : List Byte) : BitVec 16 := bytes.foldl crcByteArc 0

/-- The bytes a received word adds to the running checksum: one up to 8 bits, else two, low byte first (R211). -/
def checksumBytes (bits : BitVec 5) (w : Word) : List Byte :=
  if 8 < bits.toNat then [byteOf w 0, byteOf w 1] else [byteOf w 0]

/-- `Stamp(F, n)`, `n` the length of the buffer: length, zeroed checksum field, then the checksum over all (R161). -/
def stamp (v : CrcVariant) (f : List Byte) : List Byte :=
  memWrite (memWrite (memWrite f 0 (le16 (BitVec.ofNat 16 f.length))) 2 [0, 0]) 2
    (le16 (compute v (memWrite (memWrite f 0 (le16 (BitVec.ofNat 16 f.length))) 2 [0, 0])))

/-- A receiver's check of a ResponseFrame (R106): bytes 2 and 3 of a copy zeroed, and the checksum compared. The
hardware never receives one; claims about emitted frames use it. -/
def frameValidates (v : CrcVariant) (f : List Byte) : Bool :=
  decide (rd16 (f.getD 0 0) (f.getD 1 0) = BitVec.ofNat 16 f.length)
    && decide (rd16 (f.getD 2 0) (f.getD 3 0) = compute v (memWrite f 2 [0, 0]))

end Sys2Proof.Machine
end

