-- ==== Sys2Proof/Machine/Capture.lean ====
section
/-! DEFINITION. The Transfer Capture Engine (spec/42_capture.md). `beginCapture` is the start of `Capture` up to its first
primitive; `captureStep` is the step of the main flow at each later position of R201. -/

namespace Sys2Proof.Machine

/-- Session start and step 1 (R201, R202): the result emptied, the link configured, the operands taken. The word length
kept is the effective one, read back from `LINK.BITS`. -/
def beginCapture (p : Params) (l m : Byte) (sendValue receiveValue : Word) (s : State) : Out :=
  onNext (linkConfigure p m l { s with transferResult := TransferResult.zero })
    (fun t =>
      { t with
        cap := { t.cap with bits := t.link.bits, send0 := sendValue, recv0 := receiveValue }
        seq := .cap .timerReset })

/-- One more pattern word is queued: `C.TXINDEX <- C.TXINDEX + 1` (R201 steps 3 and 6). -/
def countSent (s : State) : State := { s with cap := { s.cap with txIndex := s.cap.txIndex + 1 } }

/-- The end of step 5: first capture value and status, then the exchange's registers (R201 steps 5 and 6). -/
def enterExchange (p : Params) (cap1 : U32) (status : CaptureStatus) (s : State) : State :=
  { s with
    cap :=
      { s.cap with
        cap1 := cap1, status := status, rxValue := s.cap.send0.setWidth 32, crc := p.crc.init, mismatch := none }
    seq := .cap .cs }

/-- The index of the first mismatch after word `w`: only the first is remembered (R212). -/
def mismatchAfter (c : CaptureRegs) (w : Word) : Option U32 :=
  match c.mismatch with
  | some k => some k
  | none => if w = expectedWord c then none else some (elementIndex c)

/-- A received word taken into the working registers: checksum, comparison, count (R210 to R212). -/
def acceptWord (p : Params) (w : Word) (c : CaptureRegs) : CaptureRegs :=
  { c with
    crc := crcFold p.crc c.crc (checksumBytes c.bits w)
    mismatch := mismatchAfter c w
    rxValue := c.rxValue + 1 }

/-- The result step 8 stores (R201, R215): with no mismatch the index is "a sentinel equal to element count". -/
def captureResult (p : Params) (c : CaptureRegs) (ticks : U32) (status : CaptureStatus) : TransferResult :=
  { checksum := crcFinish p.crc c.crc
    elementCount := elementIndex c
    mismatchIndex := c.mismatch.getD (elementIndex c)
    clockActiveTicks := ticks
    status := status }

/-- Step 8, first half: the five fields written (R215). -/
def storeCapture (p : Params) (ticks : U32) (status : CaptureStatus) (s : State) : State :=
  { s with
    cap := { s.cap with status := status }
    transferResult := captureResult p s.cap ticks status
    seq := .cap .exitTimer }

/-- Step 8 when the status is not `Success`: `ticks <- draw u32` (R201 step 7, U1). -/
def storeCaptureFree (p : Params) (status : CaptureStatus) (s : State) : State :=
  { storeCapture p (Config.freeTicks s.draws) status s with draws := s.draws + 1 }

/-- Leaving the loop of step 6: the second capture if the first succeeded, else the result (R201 step 7, R214). -/
def endExchange (p : Params) (s : State) : State :=
  match s.cap.status with
  | .success => goTo (.cap .secondCapture) s
  | .edgeNotDetected => storeCaptureFree p .edgeNotDetected s
  | .overflow => storeCaptureFree p .overflow s

/-- One step of `Capture` after its first primitive (R201). -/
def captureStep (p : Params) (pt : CapPt) (s : State) : Out :=
  match pt with
  | .timerReset => .next (goTo (.cap .overflowMatch) (timerReset s))
  | .overflowMatch => .next (goTo (.cap .overflowEnable) (setOverflow p.captureOverflowMatch s))
  | .overflowEnable => .next (goTo (.cap .captureArm) (setOverflowEnable true s))
  | .captureArm =>
    .next (goTo (.cap (.preload 0)) { setCaptureArm true s with cap := { s.cap with txIndex := 0 } })
  | .preload k =>
    onNext (txPush (nextSendWord s.cap) s)
      (fun t => goTo (if k + 1 < fifoDepth then .cap (.preload (k + 1)) else .cap .waitCs) (countSent t))
  | .waitCs => .next (goTo (if csAsserted s then .cap .enable else .cap .waitCs) s)
  | .enable => .next (goTo (.cap (.poll 0)) (setCounterEnable true s))
  | .poll k =>
    .next
      (if s.timer.cap ≠ 0 then enterExchange p s.timer.cap .success s
        else goTo (if k + 1 < p.capturePollReads then .cap (.poll (k + 1)) else .cap .pollCs) s)
  | .pollCs => .next (goTo (.cap (.pollRx (csAsserted s))) s)
  | .pollRx cs => .next (goTo (if rxNotEmpty s || !cs then .cap .approximate else .cap (.poll 0)) s)
  | .approximate => .next (enterExchange p s.timer.cnt .edgeNotDetected s)
  | .cs => .next (goTo (.cap (.rx (csAsserted s))) s)
  | .rx cs =>
    .next
      (if rxNotEmpty s then goTo (.cap .pop) s else if cs then goTo (.cap .space) s else endExchange p s)
  | .pop => rxPop (fun w t => { t with cap := acceptWord p w t.cap, seq := .cap .space }) s
  | .space => .next (goTo (if txNotFull s then .cap .push else .cap .cs) s)
  | .push => onNext (txPush (nextSendWord s.cap) s) (fun t => goTo (.cap .cs) (countSent t))
  | .secondCapture => .next (goTo (.cap (.overflowTest s.timer.cap)) s)
  | .overflowTest cap2 =>
    .next (if s.timer.en then storeCapture p (cap2 - s.cap.cap1) .success s else storeCaptureFree p .overflow s)
  | .exitTimer => .next (goTo (.cap .exitLink) (timerReset s))
  | .exitLink => onNext (linkConfigureIdle p s) (goTo .idle)

end Sys2Proof.Machine
end

