-- ==== Sys2Proof/Machine/Framer.lean ====
section
/-! DEFINITION. The Framing Transport (spec/41_framer.md): `Send`, `Receive`, and the `DrainExchange` both end with
(spec/00_scope.md R15). Each function is the step of the main flow at one position; chip-select is sampled before the FIFO
status (R384). -/

namespace Sys2Proof.Machine

/-! ### Send (R162) -/

/-- How many bytes `Send` preloads: `min(n, 8)` (R164). -/
def preloadCount (f : List Byte) : Nat := min f.length fifoDepth

/-- `Send(F, n)` up to its precondition: stamp, then read `TxEmpty()`; not empty, it logs and returns at once, "no
transfer, no wait, nothing else touched" (R162, R163). -/
def beginSend (p : Params) (f : List Byte) (s : State) : Out :=
  if txEmpty s then .next { s with frame := stamp p.crc f, seq := .send (.preload 0) }
  else .next { logEvent .sendTxNotEmpty s with frame := stamp p.crc f, seq := .idle }

/-- After byte `i` was preloaded: the next one, or the wait for chip-select (R162). -/
def afterPreload (f : List Byte) (i : Nat) : Seq :=
  if i + 1 < preloadCount f then .send (.preload (i + 1)) else .send .waitCs

/-- The streaming loop's test `i < n` (R162). -/
def sendLoop (f : List Byte) (i : Nat) : Seq := if i < f.length then .send (.cs i) else .send .unmask

/-- One step of `Send` after its precondition (R162). -/
def sendStep (pt : SendPt) (s : State) : Out :=
  match pt with
  | .preload i => onNext (txPush ((s.frame.getD i 0).setWidth 16) s) (goTo (afterPreload s.frame i))
  | .waitCs => .next (goTo (if csAsserted s then .send .mask else .send .waitCs) s)
  | .mask => .next (goTo (sendLoop s.frame (preloadCount s.frame)) (setIntMask true s))
  | .cs i => .next (goTo (if csAsserted s then .send (.underrun i) else .send .unmask) s)
  | .underrun i => .next (goTo (.send (.space i)) (if txEmpty s then logEvent .sendUnderrun s else s))
  | .space i => .next (goTo (if txNotFull s then .send (.push i) else .send (.cs i)) s)
  | .push i => onNext (txPush ((s.frame.getD i 0).setWidth 16) s) (goTo (sendLoop s.frame (i + 1)))
  | .unmask => .next (goTo (.drain .sent .cs) (setIntMask false s))

/-! ### Receive (R170) -/

/-- After byte `i` was taken: the next byte, or the drain that ends a whole frame (R170, R172). -/
def afterByte (i : Fin 8) : Seq :=
  if h : i.val + 1 < 8 then .recv (.cs ⟨i.val + 1, h⟩) else .drain .received .cs

/-- One step of `Receive(CMD, 8)`. `NoData` and `Failed` return to the idle dispatcher alike (R171, R173, R174). -/
def recvStep (pt : RecvPt) (s : State) : Out :=
  match pt with
  | .entry => .next (goTo (if rxNotEmpty s then .recv (.cs 0) else .idle) s)
  | .cs i => .next (goTo (.recv (.rx i (csAsserted s))) s)
  | .rx i cs => .next (goTo (if rxNotEmpty s then .recv (.pop i) else if cs then .recv (.cs i) else .idle) s)
  | .pop i => rxPop (fun w t => { t with cmd := t.cmd.set i (w.setWidth 8), seq := afterByte i }) s

/-! ### DrainExchange (R15) -/

/-- What the caller of `DrainExchange` does next, with the local computation that goes with it: the periodic engine raises
its flag after the drain (R241, R258, R262, R266). -/
def afterDrain (r : DrainRet) (s : State) : State :=
  match r with
  | .received => goTo .dispatch s
  | .sent => goTo .idle s
  | .notAcknowledged => goTo (.per (.unmask true)) (raiseAnomaly .notAcknowledged s)
  | .differenceNegative => goTo (.per (.unmask true)) (raiseAnomaly .arithmeticOverflow s)
  | .responded failed => goTo (.per (.unmask failed)) s

/-- One step of `DrainExchange` (R15). -/
def drainStep (r : DrainRet) (pt : DrainPt) (s : State) : Out :=
  match pt with
  | .cs => .next (goTo (.drain r (.rx (csAsserted s))) s)
  | .rx cs =>
    .next (if rxNotEmpty s then goTo (.drain r .pop) s else if cs then goTo (.drain r .cs) s else afterDrain r s)
  | .pop => rxPop (fun _ t => goTo (.drain r .cs) t) s

end Sys2Proof.Machine
end

