-- ==== Sys2Proof/Syntax.lean ====
section
/-! DEFINITION. The six commands: one constructor for each row of spec/opcode_table.json, in the table's order
(spec/30_encoding.md R120). An operand is the unsigned field the command's payload carries; the bytes a command does
not read (R104, R123) are no operand. -/

namespace Sys2Proof

/-- The command set (R120). The operand names are those of R118. -/
inductive Instr where
  /-- `GetDeviceInfo`, no payload (R104, R304). -/
  | getDeviceInfo
  /-- `CaptureNextTransfer dataBitLength, polarityMode, sendValue, receiveValue` (R102, R305). -/
  | captureNextTransfer (dataBitLength polarityMode : Byte) (sendValue receiveValue : Word)
  /-- `GetTransferInfo`, no payload (R104, R306). -/
  | getTransferInfo
  /-- `StartPeriodicInterrupts interruptFrequency, durationSeconds` (R103, R307). -/
  | startPeriodicInterrupts (interruptFrequency : U32) (durationSeconds : Word)
  /-- `GetPeriodicInterruptInfo`, no payload (R104, R308). -/
  | getPeriodicInterruptInfo
  /-- `AcknowledgeInterrupt`, no payload, "only valid during a periodic-interrupt session" (R104, R122, R309). -/
  | acknowledgeInterrupt
  deriving DecidableEq, Repr

end Sys2Proof
end

