-- ==== Sys2Proof/WellFormed.lean ====
section
/-! DEFINITION. Well-formedness of what crosses the model's boundary: a command, a CommandFrame, a configuration. -/

namespace Sys2Proof

/-- A command is well formed. Every operand fills its field exactly, and "Out-of-range operands are not refused at
decode" (R124): there is no operand value that the encoding shuts out. -/
def Instr.wf : Instr → Bool
  | .getDeviceInfo => true
  | .captureNextTransfer _ _ _ _ => true
  | .getTransferInfo => true
  | .startPeriodicInterrupts _ _ => true
  | .getPeriodicInterruptInfo => true
  | .acknowledgeInterrupt => true

/-- A CommandFrame is exactly `CMD_LEN` bytes (R101). -/
def commandFrameWf (bytes : List Byte) : Bool := decide (bytes.length = cmdLen)

/-- A ResponseFrame holds at least its 4-byte header and at most the 22 bytes of the longest one (R105, R111). -/
def responseFrameWf (bytes : List Byte) : Bool := decide (4 ≤ bytes.length ∧ bytes.length ≤ 22)

/-- A whole configuration: the parameters meet R8 and `CMD_LEN = FIFO_DEPTH` ("A model must refuse a configuration where the two differ", R9). -/
def configWf (p : Params) (cmdLength depth : Nat) : Bool := p.wf && decide (cmdLength = depth)

end Sys2Proof
end

