-- ==== Sys2Proof/Decode.lean ====
section
/-! DEFINITION. From the bytes of a CommandFrame to a command, and back (spec/30_encoding.md R101 to R104, R118 to R125).
Decoding is total; what is no command is rejected by name. -/

namespace Sys2Proof

open Sys2Proof.Machine (rd16 rd32 le16 le32 bytesOfNat)

/-- Why bytes are no command. -/
inductive DecodeError where
  /-- Fewer than 8 bytes: no whole CommandFrame (R101; R173 "no partial command is ever dispatched"). -/
  | shortFrame (got : Nat)
  /-- An opcode byte that is none of the six (R121). -/
  | unknownOpcode (opcode : Byte)
  deriving DecidableEq, Repr

/-- What decoding answers: a command and the bytes after its frame, or a rejection by name. -/
inductive Decoded where
  | command (i : Instr) (rest : List Byte)
  | rejected (why : DecodeError)
  deriving DecidableEq, Repr

/-- The command of a whole CommandFrame under the opcode values `o`: R101 for the opcode, R118 for the operands. Bytes
that a command does not read are ignored (R104, R123); no operand is refused for its value (R124). -/
def decodeFrame (o : Opcodes) (b0 b1 b2 b3 b4 b5 b6 : Byte) : Option Instr :=
  if b0 = o.getDeviceInfo then some .getDeviceInfo
  else if b0 = o.captureNextTransfer then some (.captureNextTransfer b1 b2 (rd16 b3 b4) (rd16 b5 b6))
  else if b0 = o.getTransferInfo then some .getTransferInfo
  else if b0 = o.startPeriodicInterrupts then some (.startPeriodicInterrupts (rd32 b1 b2 b3 b4) (rd16 b5 b6))
  else if b0 = o.getPeriodicInterruptInfo then some .getPeriodicInterruptInfo
  else if b0 = o.acknowledgeInterrupt then some .acknowledgeInterrupt
  else none

/-- Decoding from a sequence of bytes: the first 8 are the CommandFrame (R101). -/
def decodeWith (o : Opcodes) : List Byte → Decoded
  | b0 :: b1 :: b2 :: b3 :: b4 :: b5 :: b6 :: _ :: rest =>
    match decodeFrame o b0 b1 b2 b3 b4 b5 b6 with
    | some i => .command i rest
    | none => .rejected (.unknownOpcode b0)
  | short => .rejected (.shortFrame short.length)

/-- Decoding in the numbering of spec/opcode_table.json. The machine itself decodes with the numbering it was configured
with (`State.opcodes`, R8). -/
def decode (bytes : List Byte) : Decoded := decodeWith Opcodes.table bytes

/-- Inside a periodic session the first byte is decoded alone: is it `OP_ACKNOWLEDGE_INTERRUPT`? (R125, R256). -/
def isAcknowledge (o : Opcodes) (b : Byte) : Bool := decide (b = o.acknowledgeInterrupt)

/-- The CommandFrame of a command under the opcode values `o`, from the layouts of R101 to R104; reserved and unused
bytes are sent as 0 ("The controller should send them as 0", R104). -/
def encodeWith (o : Opcodes) : Instr → List Byte
  | .getDeviceInfo => [o.getDeviceInfo, 0, 0, 0, 0, 0, 0, 0]
  | .captureNextTransfer l m sv rv => [o.captureNextTransfer, l, m] ++ le16 sv ++ le16 rv ++ [0]
  | .getTransferInfo => [o.getTransferInfo, 0, 0, 0, 0, 0, 0, 0]
  | .startPeriodicInterrupts f d => [o.startPeriodicInterrupts] ++ le32 f ++ le16 d ++ [0]
  | .getPeriodicInterruptInfo => [o.getPeriodicInterruptInfo, 0, 0, 0, 0, 0, 0, 0]
  | .acknowledgeInterrupt => [o.acknowledgeInterrupt, 0, 0, 0, 0, 0, 0, 0]

/-- Encoding in the numbering of spec/opcode_table.json. -/
def encode (i : Instr) : List Byte := encodeWith Opcodes.table i

/-- The 8 bytes in wire order of the 64-bit view `W` of R119, of which only the low `nbits` bits are given. -/
def frameBytes (nbits w : Nat) : List Byte := bytesOfNat cmdLen (w % 2 ^ nbits)

/-- The command the decoder reads from a table word: bit 0 of `w` is bit 0 of `CMD[0]` (R119). -/
def decodeTableWord (nbits w : Nat) : Option Instr :=
  match decode (frameBytes nbits w) with
  | .command i _ => some i
  | .rejected _ => none

end Sys2Proof
end

