-- ==== Sys2Proof/Machine/Periodic.lean ====
section
/-! DEFINITION. The Periodic Interrupt Engine (spec/43_periodic.md). `beginPeriodic` is the start of `Periodic` up to its
first primitive, `acknowledge` the command `AcknowledgeInterrupt` inside a session (Classify, R260), and `periodicStep` the
step of the main flow at each other position of R241. -/

namespace Sys2Proof.Machine

/-- Natural completion: the four counts written (R270). The next position is Draining. -/
def tally (s : State) : State :=
  { s with
    isrResult :=
      { s.isrResult with
        totalEdges := s.per.total, beforeDeadline := s.per.before, afterDeadline := s.per.after,
        alreadyAcknowledged := s.per.dup }
    seq := .per .drainEdgeDisable }

/-- The session's registers written by the arming arithmetic (R241 step 1). -/
def loadSession (period total : U32) (s : State) : State :=
  { s with per := { s.per with period := period, total := total, before := 0, after := 0, dup := 0 } }

/-- `COUNTDOWN <- total; P.LASTACK <- total`, "written before the interrupt is enabled" (R244), and arming entered. -/
def loadCountdown (total : U32) (s : State) : State :=
  { s with countdown := total, per := { s.per with lastAck := total }, seq := .per .armTimerReset }

/-- Session start and the arithmetic of step 1 (R241, R242, R243): refused, it raises `ArithmeticOverflow` and drains
"before arming hardware"; with no edge to make it completes at once; else arming begins. -/
def beginPeriodic (p : Params) (freq : U32) (dur : Word) (s : State) : Out :=
  match arming p.fMeas freq dur with
  | .refuse =>
    .next (goTo (.per .drainEdgeDisable) (raiseAnomaly .arithmeticOverflow { s with isrResult := IsrResult.zero }))
  | .accept period total =>
    .next
      (if total = 0 then tally (loadSession period total { s with isrResult := IsrResult.zero })
        else loadCountdown total (loadSession period total { s with isrResult := IsrResult.zero }))

/-- `P.LASTACK <- P.LASTACK - difference`, which "now equals `COUNTDOWN`", the reply built, and Respond entered (R241
steps 4 and 5). -/
def respondWith (latency : U32) (s : State) : State :=
  { s with
    per := { s.per with lastAck := s.countdown }
    reply := ackReply latency
    seq := .per (.respondCs 0) }

/-- Classify (R260): one read of `COUNTDOWN`, the count, and the reply. -/
def acknowledge (p : Params) (s : State) : State :=
  match classifyAck s.per.lastAck s.countdown s.per.period s.per.latency with
  | .impossible => goTo (.drain .differenceNegative .cs) s
  | .duplicate => respondWith p.invalidLatency { s with per := { s.per with dup := s.per.dup + 1 } }
  | .onTime latency => respondWith latency { s with per := { s.per with before := s.per.before + 1 } }
  | .late latency => respondWith latency { s with per := { s.per with after := s.per.after + 1 } }

/-- After the first byte `b` of the exchange: the acknowledge opcode in the numbering `o`, or any other value (R256, R258). -/
def afterFirstByte (o : Opcodes) (b : Byte) : Seq :=
  if isAcknowledge o b then .per .classify else .drain .notAcknowledged .cs

/-- One step of `Periodic` after its arithmetic, but for Classify (R241). -/
def periodicStep (p : Params) (pt : PerPt) (s : State) : Out :=
  match pt with
  | .armTimerReset => .next (goTo (.per .armPeriod) (timerReset s))
  | .armPeriod => .next (goTo (.per .armPeriodEnable) (setPeriod s.per.period s))
  | .armPeriodEnable => .next (goTo (.per .armIrqEnable) (setPeriodEnable true s))
  | .armIrqEnable => .next (goTo (.per .armPin) (setIrqEnable true s))
  | .armPin => .next (goTo (.per .armEdge) (pinSelect .matchOutput s))
  | .armEdge => .next (goTo (.per .armIndicator) (setEdgeEnable true s))
  | .armIndicator => .next (goTo (.per .armCounter) (setIndicator true s))
  | .armCounter => .next (goTo (.per .loopTest) (setCounterEnable true s))
  | .loopTest => .next (if s.countdown = 0 then tally s else goTo (.per .fifoClear) s)
  | .fifoClear => .next (goTo (.per (.fill 0)) (fifoClear s))
  | .fill k =>
    onNext (txPush (p.fillerByte.setWidth 16) s)
      (goTo (if k + 1 < fifoDepth then .per (.fill (k + 1)) else .per .edgeClear))
  | .edgeClear => .next (goTo (.per .waitEdge) (edgeClear s))
  | .waitEdge => .next (goTo (if edgeStatus s then .per .latency else .per .waitEdge) s)
  | .latency => .next { s with per := { s.per with latency := s.timer.cnt }, seq := .per .deassert }
  | .deassert => .next (goTo (.per .mask) (edgeOutDeassert s))
  | .mask => .next (goTo (.per .awaitCs) (setIntMask true s))
  | .awaitCs => .next (goTo (.per (.awaitRx (csAsserted s))) s)
  | .awaitRx cs =>
    .next
      (if rxNotEmpty s then goTo (.per .awaitPop) s
        else if cs then goTo (.per .awaitCs) s
        else goTo (.per (.unmask true)) (raiseAnomaly .incompleteReceive s))
  | .awaitPop => rxPop (fun w t => goTo (afterFirstByte t.opcodes (w.setWidth 8)) t) s
  | .classify => .next (acknowledge p s)
  | .respondCs i =>
    .next
      (if csAsserted s then goTo (.per (.respondEmpty i)) s
        else goTo (.drain (.responded true) .cs) (raiseAnomaly .incompleteTransmit s))
  | .respondEmpty i =>
    .next
      (if txEmpty s then goTo (.drain (.responded true) .cs) (raiseAnomaly .transmitUnderrun s)
        else goTo (.per (.respondSpace i)) s)
  | .respondSpace i => .next (goTo (if txNotFull s then .per (.respondPush i) else .per (.respondCs i)) s)
  | .respondPush i =>
    onNext (txPush ((s.reply.getD i 0).setWidth 16) s)
      (goTo (if i + 1 < 8 then .per (.respondCs (i + 1)) else .drain (.responded false) .cs))
  | .unmask abort => .next (goTo (if abort then .per .drainEdgeDisable else .per .loopTest) (setIntMask false s))
  | .drainEdgeDisable => .next (goTo (.per .drainEdgeClear) (setEdgeEnable false s))
  | .drainEdgeClear => .next (goTo (.per .drainTimerReset) (edgeClear s))
  | .drainTimerReset => .next (goTo (.per .drainDeassert) (timerReset s))
  | .drainDeassert => .next (goTo (.per .drainPin) (edgeOutDeassert s))
  | .drainPin => .next (goTo (.per .drainIndicator) (pinSelect .plainIO s))
  | .drainIndicator => .next (goTo .idle (setIndicator false s))

end Sys2Proof.Machine
end

