-- ==== Sys2Proof/Machine/Dispatcher.lean ====
section
/-! DEFINITION. The Command Dispatcher (spec/44_dispatcher.md): the six commands, one definition each, and `Init()` with
the host's two calls (spec/70_reset_and_hazards.md R372, R374). A command's meaning is what the main flow does when the
decoded command is invoked (R301): its own pseudocode up to and with its first hardware primitive (R11). The operation it
enters goes on in the steps that follow, position by position. -/

namespace Sys2Proof.Machine

/-! ### Payloads -/

/-- The 18 bytes of `DEVICE_INFO` (R110). -/
def deviceInfoBytes (d : DeviceInfo) : List Byte :=
  le32 d.deviceId ++ le32 d.firmwareVersion ++ le32 d.maxClockFrequency ++ le32 d.measurementClockFrequency
    ++ [d.minDataBitLength, d.maxDataBitLength]

/-- The 15 bytes of `TRANSFER_RESULT` (R112). -/
def transferInfoBytes (t : TransferResult) : List Byte :=
  le16 t.checksum ++ le32 t.elementCount ++ le32 t.mismatchIndex ++ le32 t.clockActiveTicks ++ [t.status.code]

/-- The 17 bytes of `ISR_RESULT` (R114). -/
def periodicInfoBytes (r : IsrResult) : List Byte :=
  le32 r.totalEdges ++ le32 r.beforeDeadline ++ le32 r.afterDeadline ++ le32 r.alreadyAcknowledged ++ [r.status]

/-- An unsealed frame: the 4 header bytes, which `Stamp` writes, and the payload (R105). -/
def unsealed (payload : List Byte) : List Byte := [0, 0, 0, 0] ++ payload

/-! ### The commands -/

/-- `GetDeviceInfo()` (R304). -/
def getDeviceInfo (p : Params) (s : State) : Out := beginSend p (unsealed (deviceInfoBytes s.deviceInfo)) s

/-- `GetTransferInfo()` (R306). -/
def getTransferInfo (p : Params) (s : State) : Out := beginSend p (unsealed (transferInfoBytes s.transferResult)) s

/-- `GetPeriodicInterruptInfo()` (R308). -/
def getPeriodicInterruptInfo (p : Params) (s : State) : Out :=
  beginSend p (unsealed (periodicInfoBytes s.isrResult)) s

/-- `AcknowledgeInterrupt` (R309): at Classify, inside a session, it is graded and answered; anywhere else it has come
through the dispatcher and "is treated as unknown and ignored" (R122): `Poll()` returns. -/
def acknowledgeInterrupt (p : Params) (s : State) : Out :=
  if s.seq = .per .classify then .next (acknowledge p s) else .next (goTo .idle s)

/-- Meaning of `GetDeviceInfo` (R304). -/
def execGetDeviceInfo (s : State) : Out := getDeviceInfo Config.machine s

/-- Meaning of `CaptureNextTransfer` (R305). -/
def execCaptureNextTransfer (l m : Byte) (sendValue receiveValue : Word) (s : State) : Out :=
  beginCapture Config.machine l m sendValue receiveValue s

/-- Meaning of `GetTransferInfo` (R306). -/
def execGetTransferInfo (s : State) : Out := getTransferInfo Config.machine s

/-- Meaning of `StartPeriodicInterrupts` (R307). -/
def execStartPeriodicInterrupts (freq : U32) (dur : Word) (s : State) : Out :=
  beginPeriodic Config.machine freq dur s

/-- Meaning of `GetPeriodicInterruptInfo` (R308). -/
def execGetPeriodicInterruptInfo (s : State) : Out := getPeriodicInterruptInfo Config.machine s

/-- Meaning of `AcknowledgeInterrupt` (R309). -/
def execAcknowledgeInterrupt (s : State) : Out := acknowledgeInterrupt Config.machine s

/-! ### Init (R372) -/

/-- `min(F_PCLK div SLAVE_CLOCK_DIV, MAX_CLOCK_CAP)` (R110, D8), over the integers. -/
def maxClockHz (p : Params) : Nat := min (p.fPclk / p.slaveClockDiv) p.maxClockCap

/-- `MaxClockFrequency`: that frequency where the u32 field can hold it, else a free value (assumption log 5). -/
def maxClock (p : Params) : U32 :=
  if maxClockHz p < 2 ^ 32 then BitVec.ofNat 32 (maxClockHz p) else Config.wideMaxClock (maxClockHz p)

/-- What `Init()` writes into `DEVICE_INFO` (R372). -/
def deviceInfoOf (p : Params) : DeviceInfo :=
  { deviceId := p.deviceId
    firmwareVersion := p.fwVersion
    maxClockFrequency := maxClock p
    measurementClockFrequency := BitVec.ofNat 32 p.fMeas
    minDataBitLength := BitVec.ofNat 8 p.minBits
    maxDataBitLength := BitVec.ofNat 8 p.maxBits }

/-- One step of `Init()` (R372); the register writes before its first primitive go with that primitive. -/
def initStep (p : Params) (pt : InitPt) (s : State) : Out :=
  match pt with
  | .link =>
    onNext
      (linkConfigureIdle p
        { s with
          deviceInfo := deviceInfoOf p, transferResult := TransferResult.zero, isrResult := IsrResult.zero })
      (goTo (.init .timerReset))
  | .timerReset => .next (goTo (.init .edgeDisable) (timerReset s))
  | .edgeDisable => .next (goTo (.init .edgeClear) (setEdgeEnable false s))
  | .edgeClear => .next (goTo (.init .edgeOutHigh) (edgeClear s))
  | .edgeOutHigh => .next (goTo (.init .pinPlain) (edgeOutDeassert s))
  | .pinPlain => .next (goTo (.init .indicatorOff) (pinSelect .plainIO s))
  | .indicatorOff => .next (goTo (.init .unmask) (setIndicator false s))
  | .unmask => .next (goTo .idle (setIntMask false s))

/-! ### The host (R374, U8) -/

/-- The host calls `Init()`: "once", before everything else. -/
def hostInit (s : State) : Out :=
  if s.handler ≠ .notRunning then .refused .callFromHandler
  else if s.seq = .reset then .next (goTo (.init .link) s)
  else .refused .initTwice

/-- The host calls `Poll()`: after `Init()`, "each call after the previous one returned". -/
def hostPoll (s : State) : Out :=
  if s.handler ≠ .notRunning then .refused .callFromHandler
  else
    match s.seq with
    | .idle => .next (goTo (.recv .entry) s)
    | .reset => .refused .pollBeforeInit
    | .init _ => .refused .pollBeforeInit
    | .recv _ => .refused .pollReentered
    | .drain _ _ => .refused .pollReentered
    | .dispatch => .refused .pollReentered
    | .send _ => .refused .pollReentered
    | .cap _ => .refused .pollReentered
    | .per _ => .refused .pollReentered

end Sys2Proof.Machine
end

