-- ==== Sys2Proof/Machine/Dispatch.lean ====
section
/-! DEFINITION. One arm for each command of the opcode table. -/

namespace Sys2Proof.Machine

/-- The meaning of a command at a state. -/
def exec (i : Instr) (s : State) : Host.Outcome State Fault Refusal :=
  match i with
  | .getDeviceInfo => Sys2Proof.Machine.execGetDeviceInfo s
  | .captureNextTransfer l m sv rv => Sys2Proof.Machine.execCaptureNextTransfer l m sv rv s
  | .getTransferInfo => Sys2Proof.Machine.execGetTransferInfo s
  | .startPeriodicInterrupts f d => Sys2Proof.Machine.execStartPeriodicInterrupts f d s
  | .getPeriodicInterruptInfo => Sys2Proof.Machine.execGetPeriodicInterruptInfo s
  | .acknowledgeInterrupt => Sys2Proof.Machine.execAcknowledgeInterrupt s

end Sys2Proof.Machine
end

