-- ==== Sys2Proof/Machine/Handler.lean ====
section
/-! DEFINITION. The timer handler `TH` (spec/60_exceptions.md R345 to R348), one register access a step: it is atomic with
respect to the main flow, "not atomic with respect to `TM` and `CT`" (spec/20_memory.md R89). -/

namespace Sys2Proof.Machine

/-- `COUNTDOWN <- COUNTDOWN - 1`, and where the handler goes on: at 0 it stops further edge generation (R346). -/
def handlerDecrement (s : State) : State :=
  if s.countdown - 1 = 0 then { s with countdown := s.countdown - 1, handler := .stopPeriod }
  else returnFromHandler { s with countdown := s.countdown - 1 }

/-- One step of `TH`. When it is not running and may not start (R345) its turn changes nothing. -/
def handlerStep (s : State) : State :=
  match s.handler with
  | .notRunning => if handlerMayStart s then enterHandler s else s
  | .decrement => handlerDecrement s
  | .stopPeriod => { setPeriodEnable false s with handler := .stopInterrupt }
  | .stopInterrupt => returnFromHandler (setIrqEnable false s)

end Sys2Proof.Machine
end

