-- ==== Sys2Proof/Machine/Timer.lean ====
section
/-! DEFINITION. The timer hardware `TM` (spec/60_exceptions.md R352 to R354). -/

namespace Sys2Proof.Machine

/-- `PeriodMatch()`, the edge event, on the timer's registers (R353). -/
def periodMatch (t : Timer) : Timer := { t with emo := false, irqPend := t.irqPend || t.irqEn }

/-- Does this tick reach the period match? (R352). -/
def periodMatches (t : Timer) : Bool := t.perEn && decide (t.cnt + 1 = t.per)

/-- The value the counter takes at a tick: 0 at a period match, else one more, modulo 2^32 (R352). -/
def nextCount (t : Timer) : U32 := if periodMatches t then 0 else t.cnt + 1

/-- Does this tick reach the overflow match? It is tested on the value the counter takes (R352, R354). -/
def overflowMatches (t : Timer) : Bool := t.ovfEn && decide (nextCount t = t.ovf)

/-- `Tick` on the timer's registers, counter enabled (R352). -/
def tickTimer (t : Timer) : Timer :=
  { (if periodMatches t then periodMatch t else t) with
    cnt := nextCount t
    en := !overflowMatches t }

/-- `Tick`: "With `T.EN = 0` the counter holds" (R352). -/
def tickStep (s : State) : State := if s.timer.en then { s with timer := tickTimer s.timer } else s

end Sys2Proof.Machine
end

