-- ==== Sys2Proof/Machine/MainFlow.lean ====
section
/-! DEFINITION. One turn of each agent (spec/00_scope.md R10, R11): the main flow by the position it stands at, and the
choice of whose turn it is when the tape says nothing. -/

namespace Sys2Proof.Machine

/-- The dispatcher's decode of the frame in `CMD` (R301), in the numbering the machine is configured with: a command is executed, an unknown opcode "silently ignored"
(R121). -/
def dispatchStep (s : State) : Out :=
  match decodeWith s.opcodes s.cmd.toList with
  | .command i _ => exec i s
  | .rejected _ => .next (goTo .idle s)

/-- The step of the periodic engine at `pt`: at Classify the command `AcknowledgeInterrupt` is executed, decoded from the
first byte alone (R125, R256). -/
def periodicTurn (pt : PerPt) (s : State) : Out :=
  if pt = .classify then exec .acknowledgeInterrupt s else periodicStep Config.machine pt s

/-- A turn of the main flow `MF` by its position. At `Reset` it "does nothing until the host calls `Init()`" (R370), and
between two calls of `Poll()` it stands at `Idle`. -/
def mainFlow (s : State) : Out :=
  match s.seq with
  | .reset => .next s
  | .init pt => initStep Config.machine pt s
  | .idle => .next s
  | .recv pt => recvStep pt s
  | .drain r pt => drainStep r pt s
  | .dispatch => dispatchStep s
  | .send pt => sendStep pt s
  | .cap pt => captureStep Config.machine pt s
  | .per pt => periodicTurn pt s

/-- A turn of the main flow: none while the handler runs (R89). -/
def mainTurn (s : State) : Out := if s.handler = .notRunning then mainFlow s else .next s

/-- One turn of one agent (R10). -/
def turn (m : Move) (s : State) : Out :=
  match m with
  | .main => mainTurn s
  | .handler => .next (handlerStep s)
  | .tick => .next (tickStep s)
  | .wordStart => .next (wordStart s)
  | .sckFall => .next (sckFall s)
  | .wordEnd c => .next (wordEnd c s)
  | .csAssert => .next (csAssert s)
  | .csDeassert => .next (csDeassert s)
  | .callInit => hostInit s
  | .callPoll => hostPoll s

/-- Whose turn it is when the tape is empty: the handler if it runs or may start (the fairness R345 asks for); else the
host where the main flow waits for a call; else the main flow. The controller and the timer then take none. -/
def restingMove (s : State) : Move :=
  if s.handler ≠ .notRunning ∨ handlerMayStart s = true then .handler
  else
    match s.seq with
    | .reset => .callInit
    | .idle => .callPoll
    | .init _ => .main
    | .recv _ => .main
    | .drain _ _ => .main
    | .dispatch => .main
    | .send _ => .main
    | .cap _ => .main
    | .per _ => .main

/-- One step: the next turn on the tape, or the resting one (R88: every execution is one total order of steps). -/
def runStep (s : State) : Out :=
  match s.tape with
  | [] => turn (restingMove s) s
  | m :: rest => turn m { s with tape := rest }

/-- The 8 bytes of a table word as `CMD` holds them. -/
def cmdOfBytes (bytes : List Byte) : Vector Byte 8 := Vector.ofFn (fun i => bytes.getD i.val 0)

/-- The frame of a table word placed where the dispatcher decodes it, with the next turn the main flow's, in a machine
configured with the numbering the table's words are written in. -/
def placeFrame (s : State) (nbits w : Nat) : State :=
  { s with
    seq := .dispatch, handler := .notRunning, cmd := cmdOfBytes (frameBytes nbits w), tape := .main :: s.tape
    opcodes := Opcodes.table }

end Sys2Proof.Machine
end

