-- ==== Sys2Proof/Machine/Step.lean ====
section
/-! DEFINITION. The step of the machine, and the placing of a command where the next step runs it. -/

namespace Sys2Proof.Machine

/-- One step of the machine. -/
def step (s : State) : Host.Outcome State Fault Refusal := runStep s

/-- `s` with the command of the table word `w` about to be dispatched (assumption log 3: it stands for the exchange that
brings the frame in through `Receive`). -/
def State.withFetchWord (s : State) (nbits w : Nat) : State := placeFrame s nbits w

end Sys2Proof.Machine
end

