-- ==== Sys2Proof/Safety.lean ====
section
/-! DEFINITION. What counts as a safe run, in the terms claims use: the outcomes, and the relations between the fields of
the state that the spec promises of every run. Each relation is a predicate on one state. -/

namespace Sys2Proof.Safety

open Sys2Proof.Machine

/-! ### Outcomes -/

/-- The step ended in a next state. -/
def IsNext (o : Out) : Prop := ∃ t, o = .next t

/-- The step neither pushed into a full `TXF` nor popped from an empty `RXF`: U6 does not occur. -/
def NoFifoMisuse (o : Out) : Prop := o ≠ .refused .txPushFull ∧ o ≠ .refused .rxPopEmpty

/-! ### Turns of the main flow

A statement about the main flow fixes whose turns come: the tape begins with `k` turns of the main flow, which stands at
`q`, and the handler is not running. -/

/-- The next `k` turns are the main flow's, which stands at `q`; the handler is not running. -/
def MainFor (k : Nat) (q : Seq) (s : State) : Prop :=
  s.seq = q ∧ s.handler = .notRunning ∧ s.tape.take k = List.replicate k .main

/-- The state with `k` turns of the tape spent and nothing else changed. -/
def spent (k : Nat) (s : State) : State := { s with tape := s.tape.drop k }

/-- The machine after `k` steps, stopping at the first refusal. -/
def runs : Nat → State → Out
  | 0, s => .next s
  | k + 1, s =>
    match step s with
    | .next t => runs k t
    | .fault r => .fault r
    | .refused r => .refused r

/-! ### Reading a frame -/

/-- The 16-bit field at an offset of a frame, little-endian (R71). -/
def field16 (f : List Byte) (k : Nat) : BitVec 16 := rd16 (f.getD k 0) (f.getD (k + 1) 0)

/-- The 32-bit field at an offset of a frame, little-endian (R71). -/
def field32 (f : List Byte) (k : Nat) : U32 :=
  rd32 (f.getD k 0) (f.getD (k + 1) 0) (f.getD (k + 2) 0) (f.getD (k + 3) 0)

/-! ### The FIFOs and the shift state (R31, R32, R81 to R85) -/

/-- Only the low `bits` bits of the word are set (R31 "only the low `LINK.BITS` bits are meaningful"). -/
def fitsWidth (bits : BitVec 5) (w : Word) : Bool := decide (w &&& mask bits = w)

/-- The canonical form of the machine's only memory: each FIFO "a queue of at most `FIFO_DEPTH = 8` words" (R31), each
word cut to the link's word length (R72, R83). -/
def fifosWf (s : State) : Bool :=
  decide (s.txf.length ≤ fifoDepth) && decide (s.rxf.length ≤ fifoDepth)
    && s.txf.all (fitsWidth s.link.bits) && s.rxf.all (fitsWidth s.link.bits)

/-- A word in flight: chip-select is asserted, no more falling edges are left than the word has bits, and the word going
out fits; none in flight: no edges are left (R81 to R83, R85). -/
def ShiftInv (s : State) : Prop :=
  (s.link.inflight = true →
      s.cs = true ∧ s.link.falls.toNat ≤ s.link.bits.toNat ∧ s.link.out &&& mask s.link.bits = s.link.out)
    ∧ (s.link.inflight = false → s.link.falls = 0)

/-! ### Room in the FIFOs where the main flow uses them (R72, R73) -/

/-- What holds of the FIFOs at the positions that push or pop, and at those from which one is reached with no status read
between. -/
def RoomInv (s : State) : Prop :=
  match s.seq with
  | .recv (.pop _) => s.rxf ≠ []
  | .drain _ .pop => s.rxf ≠ []
  | .send (.preload i) => s.txf.length ≤ i ∧ i < preloadCount s.frame
  | .send (.push _) => s.txf.length < fifoDepth
  | .cap .timerReset => s.txf = []
  | .cap .overflowMatch => s.txf = []
  | .cap .overflowEnable => s.txf = []
  | .cap .captureArm => s.txf = []
  | .cap (.preload k) => s.txf.length ≤ k ∧ k < fifoDepth
  | .cap .pop => s.rxf ≠ []
  | .cap .push => s.txf.length < fifoDepth
  | .per (.fill k) => s.txf.length ≤ k ∧ k < fifoDepth
  | .per .awaitPop => s.rxf ≠ []
  | .per (.respondPush _) => s.txf.length < fifoDepth
  | _ => True

/-! ### Where the main flow stands, in regions -/

/-- Positions between an `IntMask()` and its `IntUnmask()` (R162, R241). -/
def masked : Seq → Bool
  | .send (.cs _) | .send (.underrun _) | .send (.space _) | .send (.push _) | .send .unmask => true
  | .per .awaitCs | .per (.awaitRx _) | .per .awaitPop | .per .classify => true
  | .per (.respondCs _) | .per (.respondEmpty _) | .per (.respondSpace _) | .per (.respondPush _) => true
  | .per (.unmask _) => true
  | .drain .notAcknowledged _ | .drain .differenceNegative _ | .drain (.responded _) _ => true
  | _ => false

/-- The drains of a periodic session's exchange. -/
def sessionDrain : Seq → Bool
  | .drain .notAcknowledged _ | .drain .differenceNegative _ | .drain (.responded _) _ => true
  | _ => false

/-- Positions of an armed periodic session: from the loop test to Draining's first action. -/
def running : Seq → Bool
  | .per .loopTest | .per .fifoClear | .per (.fill _) | .per .edgeClear | .per .waitEdge | .per .latency => true
  | .per .deassert | .per .mask | .per .awaitCs | .per (.awaitRx _) | .per .awaitPop | .per .classify => true
  | .per (.respondCs _) | .per (.respondEmpty _) | .per (.respondSpace _) | .per (.respondPush _) => true
  | .per (.unmask _) | .per .drainEdgeDisable => true
  | q => sessionDrain q

/-- Positions at which the period match may be enabled (R241: `T.PER_EN` to the `TimerReset()` of Draining). -/
def periodLive : Seq → Bool
  | .per .armIrqEnable | .per .armPin | .per .armEdge | .per .armIndicator | .per .armCounter => true
  | .per .drainEdgeClear | .per .drainTimerReset => true
  | q => running q

/-- Positions at which the interrupt may be enabled or pending (R241, R340). -/
def irqLive : Seq → Bool
  | .per .armPin | .per .armEdge | .per .armIndicator | .per .armCounter => true
  | .per .drainEdgeClear | .per .drainTimerReset => true
  | q => running q

/-- Positions at which the output pin may follow the match output (R244, R275). -/
def pinLive : Seq → Bool
  | .per .armEdge | .per .armIndicator | .per .armCounter => true
  | .per .drainEdgeClear | .per .drainTimerReset | .per .drainDeassert | .per .drainPin => true
  | q => running q

/-- Positions at which `T.EMO` may be low (R241: from the enabled period match to Draining's `EdgeOutDeassert()`). -/
def outputLive : Seq → Bool
  | .per .drainDeassert => true
  | q => periodLive q

/-- Positions at which the edge detector may be enabled (R241). -/
def edgeLive : Seq → Bool
  | .per .armIndicator | .per .armCounter => true
  | q => running q

/-- Positions at which `EDGE.STATUS` may be set. -/
def edgeStatusLive : Seq → Bool
  | .per .drainEdgeClear => true
  | q => edgeLive q

/-- Positions at which the indicator may be on (R241, R275). -/
def indicatorLive : Seq → Bool
  | .per .armCounter => true
  | .per .drainEdgeClear | .per .drainTimerReset | .per .drainDeassert | .per .drainPin | .per .drainIndicator => true
  | q => running q

/-- Positions of a capture at which the overflow match may be enabled (R201 step 2 to `TimerReset()` of step 8). -/
def overflowLive : Seq → Bool
  | .cap .timerReset | .cap .overflowMatch | .cap .overflowEnable | .cap .exitLink => false
  | .cap _ => true
  | _ => false

/-- Positions at which the capture channel may be armed (R201 steps 2 to 8). -/
def captureLive : Seq → Bool
  | .cap .captureArm => false
  | q => overflowLive q

/-- Positions at which the counter may run: a capture from step 4 on, and an armed periodic session. -/
def counterLive : Seq → Bool
  | .cap (.preload _) | .cap .waitCs | .cap .enable => false
  | .per .drainEdgeClear | .per .drainTimerReset => true
  | q => captureLive q || running q

/-- Positions of a capture session, at which the link may have another word length than 8 (R78). -/
def capturing : Seq → Bool
  | .cap _ => true
  | _ => false

/-- Positions before `Init()` has configured the link (R372). -/
def beforeLink : Seq → Bool
  | .reset | .init .link => true
  | _ => false

/-! ### The engines restore what they use (R375, R275, R216, R340) -/

/-- Every unit is in its idle condition except at the positions of the engine that uses it. -/
structure EngineInv (s : State) : Prop where
  /-- `IMASK` is set exactly inside the critical sections. -/
  mask : s.imask = masked s.seq
  /-- The period match is enabled only in a periodic session. -/
  periodMatch : s.timer.perEn = true → periodLive s.seq = true
  /-- The interrupt is enabled only in a periodic session. -/
  irqEnable : s.timer.irqEn = true → irqLive s.seq = true
  /-- It is pending only in a periodic session. -/
  irqPending : s.timer.irqPend = true → irqLive s.seq = true
  /-- The handler runs only with the interrupt enabled and not masked. -/
  handlerRuns : s.handler ≠ .notRunning → s.timer.irqEn = true ∧ s.imask = false
  /-- The overflow match is enabled only in a capture session. -/
  overflowMatch : s.timer.ovfEn = true → overflowLive s.seq = true
  /-- The capture channel is armed only in a capture session. -/
  captureArm : s.timer.capArm = true → captureLive s.seq = true
  /-- The counter runs only in a session. -/
  counter : s.timer.en = true → counterLive s.seq = true
  /-- The counter is 0 where it cannot run. -/
  count : counterLive s.seq = false → s.timer.cnt = 0
  /-- The capture register is 0 where nothing can be latched. -/
  capture : counterLive s.seq = false ∨ captureLive s.seq = false → s.timer.cap = 0
  /-- The match output is high outside a periodic session. -/
  output : s.timer.emo = false → outputLive s.seq = true
  /-- The pin is plain I/O outside a periodic session. -/
  pin : s.pinFunc = .matchOutput → pinLive s.seq = true
  /-- The edge detector is off outside a periodic session. -/
  edge : s.edge.en = true → edgeLive s.seq = true
  /-- Its status is clear outside a periodic session. -/
  edgeStatus : s.edge.status = true → edgeStatusLive s.seq = true
  /-- The indicator is off outside a periodic session. -/
  indicator : s.ind = true → indicatorLive s.seq = true
  /-- Outside a capture, and once `Init()` has set it, the word length is 8 (R78). -/
  width : capturing s.seq = false → beforeLink s.seq = false → s.link.bits = 8
  /-- Inside a capture the word length is a supported one, and `C.BITS` holds it (R202). -/
  captureWidth : capturing s.seq = true →
    Config.machine.minBits ≤ s.link.bits.toNat ∧ s.link.bits.toNat ≤ Config.machine.maxBits ∧ s.cap.bits = s.link.bits

/-- The launch premise but for the environment and the FIFOs (R375, and the end state of R275 and R216): every unit idle,
the interrupt unmasked, the link in 8-bit words. -/
def UnitsIdle (s : State) : Prop :=
  s.imask = false ∧ s.handler = .notRunning ∧ s.link.bits = 8 ∧ s.pinFunc = .plainIO ∧ s.ind = false
    ∧ s.edge = { en := false, status := false }
    ∧ s.timer =
      { s.timer with
        en := false, cnt := 0, cap := 0, capArm := false, perEn := false, ovfEn := false, irqEn := false,
        irqPend := false, emo := true }

/-! ### The capture's clock (R204, R206, R214, R354) -/

/-- The timer as a capture leaves it before the counter starts: stopped at 0, nothing latched. -/
def clockZero (t : Timer) : Prop := t.en = false ∧ t.cnt = 0 ∧ t.cap = 0 ∧ t.perEn = false

/-- The timer while a capture measures: no period match, the overflow match armed at `CAPTURE_OVERFLOW_MATCH`, the counter
capped by it, and the latched value no later than the counter. -/
def clockRuns (t : Timer) : Prop :=
  t.perEn = false ∧ t.ovfEn = true ∧ t.ovf = Config.machine.captureOverflowMatch ∧ t.cnt.toNat ≤ t.ovf.toNat
    ∧ (t.en = true → t.cnt.toNat < t.ovf.toNat) ∧ t.cap.toNat ≤ t.cnt.toNat

/-- The first capture value of a `Success` session is not 0 and not later than `v` (R206, R224). -/
def firstBefore (c : CaptureRegs) (v : U32) : Prop :=
  c.status = .success → c.cap1 ≠ 0 ∧ c.cap1.toNat ≤ v.toNat

/-- What holds of the timer and of `C.CAP1` at the positions of a capture. -/
def CaptureClockInv (s : State) : Prop :=
  match s.seq with
  | .cap .overflowMatch => clockZero s.timer
  | .cap .overflowEnable => clockZero s.timer ∧ s.timer.ovf = Config.machine.captureOverflowMatch
  | .cap .captureArm | .cap (.preload _) | .cap .waitCs | .cap .enable =>
    clockZero s.timer ∧ s.timer.ovf = Config.machine.captureOverflowMatch ∧ s.timer.ovfEn = true
  | .cap (.poll _) | .cap .pollCs | .cap (.pollRx _) | .cap .approximate => clockRuns s.timer
  | .cap .cs | .cap (.rx _) | .cap .pop | .cap .space | .cap .push =>
    clockRuns s.timer ∧ firstBefore s.cap s.timer.cap
  | .cap .secondCapture => clockRuns s.timer ∧ firstBefore s.cap s.timer.cap ∧ s.cap.status = .success
  | .cap (.overflowTest cap2) => clockRuns s.timer ∧ firstBefore s.cap cap2 ∧ s.cap.status = .success
  | _ => True

/-! ### The shared countdown (R262, R346) -/

/-- Positions of `Periodic` between the load of `COUNTDOWN` and the enabling of the interrupt (R244). -/
def arming : Seq → Bool
  | .per .armTimerReset | .per .armPeriod | .per .armPeriodEnable | .per .armIrqEnable => true
  | _ => false

/-- Positions of a session that may still classify an acknowledgement. -/
def classifying : Seq → Bool
  | .per .armPin | .per .armEdge | .per .armIndicator | .per .armCounter => true
  | .per .drainEdgeDisable => false
  | q => arming q || running q

/-- `COUNTDOWN` never passes `P.LASTACK`, and the handler never finds it 0 (R262, R346). -/
structure CountdownInv (s : State) : Prop where
  irqEnable : s.timer.irqEn = true → irqLive s.seq = true
  handlerRuns : s.handler ≠ .notRunning → s.timer.irqEn = true ∧ masked s.seq = false
  mask : s.imask = masked s.seq
  /-- "On entry `COUNTDOWN ≥ 1`" (R346). -/
  entry : s.timer.irqEn = true → s.handler = .notRunning → s.countdown ≠ 0
  decrement : s.handler = .decrement → s.countdown ≠ 0
  stopped : s.handler = .stopPeriod ∨ s.handler = .stopInterrupt → s.countdown = 0
  loaded : arming s.seq = true → s.countdown ≠ 0
  /-- "`COUNTDOWN` only decreases after arming and `P.LASTACK` is always a value `COUNTDOWN` had earlier" (R262). -/
  order : classifying s.seq = true → s.countdown.toNat ≤ s.per.lastAck.toNat
  /-- The abort of R262 is never entered. -/
  reachable : ∀ p, s.seq ≠ .drain .differenceNegative p

/-! ### The session result (R286, R271) -/

/-- Positions of a session before it completes or raises a flag. -/
def clean : Seq → Bool
  | .per .armTimerReset | .per .armPeriod | .per .armPeriodEnable | .per .armIrqEnable => true
  | .per .armPin | .per .armEdge | .per .armIndicator | .per .armCounter => true
  | .per .loopTest | .per .fifoClear | .per (.fill _) | .per .edgeClear | .per .waitEdge | .per .latency => true
  | .per .deassert | .per .mask | .per .awaitCs | .per (.awaitRx _) | .per .awaitPop | .per .classify => true
  | .per (.respondCs _) | .per (.respondEmpty _) | .per (.respondSpace _) | .per (.respondPush _) => true
  | .per (.unmask false) => true
  | .drain .notAcknowledged _ | .drain .differenceNegative _ | .drain (.responded false) _ => true
  | _ => false

/-- "`ISR_RESULT.Status` has at most one bit set" (R286) and "On an abort the four counts of `ISR_RESULT` keep the zeros of
session start" (R271); before either, the result is all zero (R241). -/
structure ResultInv (s : State) : Prop where
  oneFlag : s.isrResult.status = 0 ∨ ∃ x : Anomaly, s.isrResult = { IsrResult.zero with status := x.bit }
  clean : clean s.seq = true → s.isrResult = IsrResult.zero

end Sys2Proof.Safety
end

