-- ==== Sys2Proof/Certificates/Slice0/Obligations.lean ====
section
/-! DEFINITION. The statements about the machine, each a `Prop`. A statement about turns of the main flow says with
`MainFor` where the main flow stands and that the next turns are its own; `spent k s` is `s` with `k` turns of the tape used
up, so an equation `= .next { spent k s with … }` says that every field it does not name is unchanged. The tape of turns is the
model's own (assumption logs 1, 2 and 7); a free value holds for every value of it (log 11). The numbering of the opcodes is
the configuration's, carried in the state as `s.opcodes`, so a statement over every state holds for every numbering (log 4). -/

open Sys2Proof Sys2Proof.Machine Sys2Proof.Safety

/-! ### Encoding and decoding -/

/-- Decoding an encoded well-formed command gives it back, under every numbering of the six opcodes by distinct bytes,
with every operand at every value and whatever follows the frame (30_encoding.md sections 1 to 3). -/
def Obligations.DecodeOfEncodeIsTheCommand : Prop :=
  ∀ (o : Opcodes) (i : Instr) (rest : List Byte), o.wf = true → i.wf = true →
    decodeWith o (encodeWith o i ++ rest) = .command i rest

/-- The operands are the little-endian fields at the offsets of R102 and R103, and the reserved last byte has no
influence. -/
def Obligations.OperandsAreTheLaidOutFields : Prop :=
  ∀ (o : Opcodes) (b1 b2 b3 b4 b5 b6 b7 : Byte) (rest : List Byte), o.wf = true →
    (∃ sv rv : Word, sv.toNat = b3.toNat + 256 * b4.toNat ∧ rv.toNat = b5.toNat + 256 * b6.toNat ∧
      decodeWith o (o.captureNextTransfer :: b1 :: b2 :: b3 :: b4 :: b5 :: b6 :: b7 :: rest) =
        .command (.captureNextTransfer b1 b2 sv rv) rest) ∧
    (∃ (f : U32) (d : Word),
      f.toNat = b1.toNat + 256 * b2.toNat + 65536 * b3.toNat + 16777216 * b4.toNat ∧
      d.toNat = b5.toNat + 256 * b6.toNat ∧
      decodeWith o (o.startPeriodicInterrupts :: b1 :: b2 :: b3 :: b4 :: b5 :: b6 :: b7 :: rest) =
        .command (.startPeriodicInterrupts f d) rest)

/-- A frame decodes to a command exactly when its first byte is one of the six opcodes, whatever the other seven bytes
are; fewer than 8 bytes never do. -/
def Obligations.OnlyTheSixOpcodesDecode : Prop :=
  ∀ (o : Opcodes) (bytes : List Byte),
    (∃ i rest, decodeWith o bytes = .command i rest) ↔
      (cmdLen ≤ bytes.length ∧ bytes.getD 0 0 ∈ o.toList)

/-- Table words, which are written in the default numbering, decode to the command they stand for (95_test_vectors.md V80 to
V89). -/
def Obligations.TableWordsDecode : Prop :=
  decodeTableWord 64 0x030201EFBEADDE00 = some .getDeviceInfo ∧
  decodeTableWord 64 0x0000A00010000801 = some (.captureNextTransfer 8 0 0x0010 0x00A0) ∧
  decodeTableWord 64 0x0000000000000002 = some .getTransferInfo ∧
  decodeTableWord 64 0x000002000003E803 = some (.startPeriodicInterrupts 1000 2) ∧
  decodeTableWord 64 0x0000000000000004 = some .getPeriodicInterruptInfo ∧
  decodeTableWord 64 0x0000000000000005 = some .acknowledgeInterrupt ∧
  decodeTableWord 64 0x070605040302017F = none

/-! ### Dispatch -/

/-- A step at the dispatcher, on the main flow's turn, executes the command in `CMD` with that turn spent; so does a step
with an empty tape when the handler neither runs nor may start (the model's choice, assumption log 2). -/
def Obligations.StepRunsTheDecodedCommand : Prop :=
  ∀ (s : State) (i : Instr) (rest : List Byte), decodeWith s.opcodes s.cmd.toList = .command i rest → i.wf = true →
    (MainFor 1 .dispatch s → step s = exec i (spent 1 s)) ∧
    (s.seq = .dispatch → s.tape = [] → s.handler = .notRunning → handlerMayStart s = false → step s = exec i s)

/-- Inside a session the first byte alone is decoded: the acknowledge opcode at the head of `RXF` leads to Classify, where
the step executes `AcknowledgeInterrupt`; any other byte leads to the draining of the exchange, and when that ends the session
is aborted with `NotAcknowledged`. Executed anywhere but at Classify `AcknowledgeInterrupt` is ignored: it changes only the
position. The spec says so of the dispatcher alone; that the meaning is the same at the positions no run executes it at is the
model's reading (assumption log 29, DEDUCED). -/
def Obligations.SessionDecodesTheFirstByteAlone : Prop :=
  (∀ (s : State) (w : Word) (ws : List Word), MainFor 1 (.per .awaitPop) s → s.rxf = w :: ws →
    step s = .next { spent 1 s with
      rxf := ws
      seq := if w.setWidth 8 = s.opcodes.acknowledgeInterrupt then .per .classify
        else .drain .notAcknowledged .cs }) ∧
  (∀ s : State, MainFor 1 (.per .classify) s → step s = exec .acknowledgeInterrupt (spent 1 s)) ∧
  (∀ s : State, MainFor 1 (.drain .notAcknowledged (.rx false)) s → s.rxf = [] →
    step s = .next { spent 1 s with
      isrResult := { s.isrResult with status := s.isrResult.status ||| 0x10 }, seq := .per (.unmask true) }) ∧
  (∀ s : State, s.seq ≠ .per .classify → exec .acknowledgeInterrupt s = .next { s with seq := .idle })

/-- A frame whose opcode byte is none of the five the dispatcher serves changes nothing but the position: no response, no log,
no state change. With the default numbering these bytes are 0x05 and above. -/
def Obligations.UnservedOpcodesAreIgnored : Prop :=
  (∀ s : State, MainFor 1 .dispatch s →
    s.cmd[0] ≠ s.opcodes.getDeviceInfo → s.cmd[0] ≠ s.opcodes.captureNextTransfer →
    s.cmd[0] ≠ s.opcodes.getTransferInfo → s.cmd[0] ≠ s.opcodes.startPeriodicInterrupts →
    s.cmd[0] ≠ s.opcodes.getPeriodicInterruptInfo →
    step s = .next { spent 1 s with seq := .idle }) ∧
  (∀ b : Byte, (b ≠ Opcodes.table.getDeviceInfo ∧ b ≠ Opcodes.table.captureNextTransfer ∧
    b ≠ Opcodes.table.getTransferInfo ∧ b ≠ Opcodes.table.startPeriodicInterrupts ∧
    b ≠ Opcodes.table.getPeriodicInterruptInfo) ↔ 5 ≤ b.toNat)

/-! ### Checksum Engine -/

/-- The bit-reflected form computes the same checksum as the general form with the default parameters, for every byte
sequence. -/
def Obligations.ReflectedCrcEqualsTheDefaultCrc : Prop :=
  ∀ bytes : List Byte, computeArc bytes = compute CrcVariant.arc bytes

/-- The running checksum over any grouping of the bytes into calls is `Compute` of the whole sequence, for every
variant. -/
def Obligations.RunningChecksumIgnoresGrouping : Prop :=
  ∀ (v : CrcVariant) (chunks : List (List Byte)),
    crcFinish v (chunks.foldl (crcFold v) v.init) = compute v chunks.flatten

/-- `Stamp(F, n)`, `4 ≤ n ≤ 22`: the length field holds `n`, the checksum field the checksum over the whole frame with that
field zeroed, the payload and the length of the buffer are unchanged; so the receiver's check accepts the frame. -/
def Obligations.StampSealsTheFrame : Prop :=
  ∀ (v : CrcVariant) (f : List Byte), 4 ≤ f.length → f.length ≤ 22 →
    (stamp v f).length = f.length ∧ (stamp v f).drop 4 = f.drop 4 ∧
    (field16 (stamp v f) 0).toNat = f.length ∧
    field16 (stamp v f) 2 = compute v ((stamp v f).take 2 ++ [0, 0] ++ f.drop 4) ∧
    frameValidates v (stamp v f) = true

/-! ### The query commands and `Send` -/

/-- `GetDeviceInfo` with `TXF` empty answers a next state: `F` is a valid 22-byte frame with the fields of `DEVICE_INFO` at
their offsets, `Send` goes on to its preload, and nothing else changes. -/
def Obligations.GetDeviceInfoBuildsTheFrame : Prop :=
  ∀ s : State, s.txf = [] → ∃ f : List Byte,
    exec .getDeviceInfo s = .next { s with frame := f, seq := .send (.preload 0) } ∧
    f.length = 22 ∧ frameValidates Config.machine.crc f = true ∧
    field32 f 4 = s.deviceInfo.deviceId ∧ field32 f 8 = s.deviceInfo.firmwareVersion ∧
    field32 f 12 = s.deviceInfo.maxClockFrequency ∧ field32 f 16 = s.deviceInfo.measurementClockFrequency ∧
    f.getD 20 0 = s.deviceInfo.minDataBitLength ∧ f.getD 21 0 = s.deviceInfo.maxDataBitLength

/-- `GetTransferInfo` with `TXF` empty answers a next state: `F` is a valid 19-byte frame with the fields of
`TRANSFER_RESULT` at their offsets, and nothing else changes but the position. -/
def Obligations.GetTransferInfoBuildsTheFrame : Prop :=
  ∀ s : State, s.txf = [] → ∃ f : List Byte,
    exec .getTransferInfo s = .next { s with frame := f, seq := .send (.preload 0) } ∧
    f.length = 19 ∧ frameValidates Config.machine.crc f = true ∧
    field16 f 4 = s.transferResult.checksum ∧ field32 f 6 = s.transferResult.elementCount ∧
    field32 f 10 = s.transferResult.mismatchIndex ∧ field32 f 14 = s.transferResult.clockActiveTicks ∧
    (f.getD 18 0).toNat =
      (match s.transferResult.status with
        | .success => 0
        | .edgeNotDetected => 1
        | .overflow => 2)

/-- `GetPeriodicInterruptInfo` with `TXF` empty answers a next state: `F` is a valid 21-byte frame with the fields of
`ISR_RESULT` at their offsets, and nothing else changes but the position. -/
def Obligations.GetPeriodicInterruptInfoBuildsTheFrame : Prop :=
  ∀ s : State, s.txf = [] → ∃ f : List Byte,
    exec .getPeriodicInterruptInfo s = .next { s with frame := f, seq := .send (.preload 0) } ∧
    f.length = 21 ∧ frameValidates Config.machine.crc f = true ∧
    field32 f 4 = s.isrResult.totalEdges ∧ field32 f 8 = s.isrResult.beforeDeadline ∧
    field32 f 12 = s.isrResult.afterDeadline ∧ field32 f 16 = s.isrResult.alreadyAcknowledged ∧
    f.getD 20 0 = s.isrResult.status

/-- With a word left in `TXF` each query performs no transfer: it logs the warning and returns to the idle dispatcher at
once. `TXF`, `RXF`, the results and the link are unchanged; only the scratch buffer `F` was stamped. -/
def Obligations.SendAbandonsOnLeftoverWords : Prop :=
  ∀ (s : State) (i : Instr), s.txf ≠ [] →
    i = .getDeviceInfo ∨ i = .getTransferInfo ∨ i = .getPeriodicInterruptInfo →
    ∃ f : List Byte, frameValidates Config.machine.crc f = true ∧
      exec i s = .next { s with frame := f, log := s.log ++ [.sendTxNotEmpty], seq := .idle }

/-- `Send` preloads the first `min(n, 8)` bytes of the frame in order, one a turn, and then waits for chip-select. -/
def Obligations.SendPreloadsTheFirstBytes : Prop :=
  ∀ s : State, MainFor (min s.frame.length 8) (.send (.preload 0)) s → s.frame ≠ [] → s.txf = [] → s.link.bits = 8 →
    runs (min s.frame.length 8) s =
      .next { spent (min s.frame.length 8) s with
        txf := (s.frame.take 8).map (BitVec.setWidth 16)
        seq := .send .waitCs }

/-- `Send` waits for chip-select as long as it takes, then masks the interrupt and enters the streaming loop at the first byte
not preloaded. One pass of the loop: with chip-select asserted and space in `TXF` byte `i` goes to its tail, an empty `TXF` is
logged and is not fatal, and the loop goes on until the last byte is queued. With `TXF` full nothing is queued and the pass is
made again. With chip-select seen deasserted the remaining bytes are never queued. The interrupt mask is restored and the
receive FIFO is drained on that path and at the end alike. -/
def Obligations.SendStreamsTheRemainingBytes : Prop :=
  ∀ (s : State) (i : Nat),
    (MainFor 4 (.send (.cs i)) s → s.cs = true → s.txf.length < 8 → s.link.bits = 8 → i < s.frame.length →
      runs 4 s =
        .next { spent 4 s with
          txf := s.txf ++ [(s.frame.getD i 0).setWidth 16]
          log := if s.txf = [] then s.log ++ [.sendUnderrun] else s.log
          seq := if i + 1 < s.frame.length then .send (.cs (i + 1)) else .send .unmask }) ∧
    (MainFor 3 (.send (.cs i)) s → s.cs = true → 8 ≤ s.txf.length → runs 3 s = .next (spent 3 s)) ∧
    (MainFor 2 (.send (.cs i)) s → s.cs = false →
      runs 2 s = .next { spent 2 s with imask := false, seq := .drain .sent .cs }) ∧
    (MainFor 1 (.send .unmask) s → step s = .next { spent 1 s with imask := false, seq := .drain .sent .cs }) ∧
    (MainFor 1 (.send .waitCs) s → s.cs = false → step s = .next (spent 1 s)) ∧
    (MainFor 2 (.send .waitCs) s → s.cs = true →
      runs 2 s = .next { spent 2 s with
        imask := true
        seq := if 8 < s.frame.length then .send (.cs 8) else .send .unmask })

/-- `DrainExchange` with chip-select deasserted discards every word of `RXF` and returns to its caller: `Receive` to the
dispatcher; `Send` to the idle dispatcher; the periodic engine to its unmask, with `NotAcknowledged` or `ArithmeticOverflow`
raised after the drain that this anomaly began, and with no further flag after the reply. Nothing else changes. A pass that finds
a word discards it, whatever chip-select is, and the loop goes on; while chip-select is asserted and nothing arrives it waits. -/
def Obligations.DrainDiscardsAndReturns : Prop :=
  (∀ (s : State) (r : DrainRet), MainFor (3 * s.rxf.length + 2) (.drain r .cs) s → s.cs = false →
    runs (3 * s.rxf.length + 2) s =
      .next { spent (3 * s.rxf.length + 2) s with
        rxf := []
        seq :=
          match r with
          | .received => .dispatch
          | .sent => .idle
          | .notAcknowledged => .per (.unmask true)
          | .differenceNegative => .per (.unmask true)
          | .responded failed => .per (.unmask failed)
        isrResult := { s.isrResult with
          status :=
            match r with
            | .notAcknowledged => s.isrResult.status ||| 0x10
            | .differenceNegative => s.isrResult.status ||| 0x01
            | _ => s.isrResult.status } }) ∧
  (∀ (s : State) (r : DrainRet) (w : Word) (ws : List Word), MainFor 3 (.drain r .cs) s → s.rxf = w :: ws →
    runs 3 s = .next { spent 3 s with rxf := ws }) ∧
  (∀ (s : State) (r : DrainRet), MainFor 2 (.drain r .cs) s → s.cs = true → s.rxf = [] → runs 2 s = .next (spent 2 s))

/-! ### Receive -/

/-- "Ok". With the exchange over and 8 words in `RXF` (as many as it holds), `Receive` puts their low bytes into `CMD` in
order and leads to the dispatcher with `RXF` empty; nothing else changes. A frame that arrives while `Poll()` runs is taken byte by
byte: `Receive` begins as soon as one word is there, and a pass that finds a word puts its low byte into `CMD[i]`, whatever
chip-select is, and goes on to the next byte, or after the last to the drain that ends the exchange. -/
def Obligations.ReceiveTakesAWholeFrame : Prop :=
  (∀ (s : State) (w0 w1 w2 w3 w4 w5 w6 w7 : Word),
    MainFor 27 (.recv .entry) s → s.cs = false → s.rxf = [w0, w1, w2, w3, w4, w5, w6, w7] →
    runs 27 s =
      .next { spent 27 s with
        cmd := #v[w0.setWidth 8, w1.setWidth 8, w2.setWidth 8, w3.setWidth 8, w4.setWidth 8, w5.setWidth 8,
          w6.setWidth 8, w7.setWidth 8]
        rxf := []
        seq := .dispatch }) ∧
  (∀ s : State, MainFor 1 (.recv .entry) s → s.rxf ≠ [] → step s = .next { spent 1 s with seq := .recv (.cs 0) }) ∧
  (∀ (s : State) (i : Fin 8) (w : Word) (ws : List Word), MainFor 3 (.recv (.cs i)) s → s.rxf = w :: ws →
    runs 3 s =
      .next { spent 3 s with
        cmd := s.cmd.set i (w.setWidth 8)
        rxf := ws
        seq := if h : i.val + 1 < 8 then .recv (.cs ⟨i.val + 1, h⟩) else .drain .received .cs })

/-- "NoData" and "Failed" dispatch nothing. With `RXF` empty `Receive` returns after one look, whatever chip-select is. An
exchange of 1 to 7 words that has ended is taken word by word, and then `Receive` returns to the idle dispatcher with `RXF`
empty; nothing but `CMD`, which is scratch, has changed. While chip-select stays asserted and no byte arrives it waits. -/
def Obligations.NoPartialCommandIsDispatched : Prop :=
  (∀ s : State, MainFor 1 (.recv .entry) s → s.rxf = [] → step s = .next { spent 1 s with seq := .idle }) ∧
  (∀ s : State, MainFor (3 * s.rxf.length + 3) (.recv .entry) s → s.cs = false → s.rxf ≠ [] → s.rxf.length < 8 →
    ∃ c : Vector Byte 8,
      runs (3 * s.rxf.length + 3) s =
        .next { spent (3 * s.rxf.length + 3) s with cmd := c, rxf := [], seq := .idle }) ∧
  (∀ (s : State) (i : Fin 8), MainFor 2 (.recv (.cs i)) s → s.cs = true → s.rxf = [] → runs 2 s = .next (spent 2 s))

/-! ### FIFO access and link configuration -/

/-- The two ends of the FIFOs the main flow reaches. `TxPush` appends the word cut to `LINK.BITS` bits at the tail of `TXF`,
and is refused when `TXF` is full; `RxPop` removes the oldest word of `RXF` and gives it to what follows, and is refused when
`RXF` is empty (the spec's U6; assumption log 16). -/
def Obligations.FifosAreReachedAtTheirEnds : Prop :=
  ∀ (s : State) (w : Word) (k : Word → State → State),
    (s.txf.length < 8 → ∃ v : Word, v.toNat = w.toNat % 2 ^ s.link.bits.toNat ∧
      txPush w s = .next { s with txf := s.txf ++ [v] }) ∧
    (8 ≤ s.txf.length → txPush w s = .refused .txPushFull) ∧
    (∀ v vs, s.rxf = v :: vs → rxPop k s = .next (k v { s with rxf := vs })) ∧
    (s.rxf = [] → rxPop k s = .refused .rxPopEmpty)

/-- `EffBits(L)` is `L` where it is supported and 8 otherwise, in every well-formed configuration. -/
def Obligations.EffBitsFallsBackToEight : Prop :=
  ∀ (p : Params) (l : Byte), p.wf = true →
    (effBits p l).toNat = if p.minBits ≤ l.toNat ∧ l.toNat ≤ p.maxBits then l.toNat else 8

/-- `LinkConfigure` writes the mode (its low two bits up to 3, a free value above), the effective word length, and empties
both FIFOs; with a word in flight it is refused (the spec's U5 and U7; assumption logs 13 and 17). -/
def Obligations.LinkConfigureSetsTheLink : Prop :=
  ∀ (p : Params) (m l : Byte) (s : State),
    (s.link.inflight = true → linkConfigure p m l s = .refused .linkConfigureInFlight) ∧
    (s.link.inflight = false → m.toNat ≤ 3 →
      linkConfigure p m l s =
        .next { s with
          link := { s.link with mode := BitVec.ofNat 2 m.toNat, bits := effBits p l }, txf := [], rxf := [] }) ∧
    (s.link.inflight = false → 3 < m.toNat →
      ∃ free : BitVec 2, linkConfigure p m l s =
        .next { s with
          link := { s.link with mode := free, bits := effBits p l }, txf := [], rxf := [],
          draws := s.draws + 1 })

/-! ### Transfer Capture Engine -/

/-- `CaptureNextTransfer` answers a next state when no word is in flight: the result is emptied, the link takes the
effective length and the mode (any mode when the request is above 3), the FIFOs are empty, the operands are kept, and nothing
else changes but the position. With a word in flight it is refused. The free mode and the refusal are the model's choices for the
spec's U5 and U7 (assumption logs 13 and 17). -/
def Obligations.CaptureStartsTheSession : Prop :=
  ∀ (s : State) (l m : Byte) (sv rv : Word),
    (s.link.inflight = false →
      ∃ (mode : BitVec 2) (d : Nat),
        exec (.captureNextTransfer l m sv rv) s =
          .next { s with
            transferResult := TransferResult.zero
            link := { s.link with mode := mode, bits := effBits Config.machine l }
            txf := []
            rxf := []
            cap := { s.cap with bits := effBits Config.machine l, send0 := sv, recv0 := rv }
            draws := d
            seq := .cap .timerReset } ∧
        (m.toNat ≤ 3 → mode.toNat = m.toNat ∧ d = s.draws) ∧ (3 < m.toNat → d = s.draws + 1)) ∧
    (s.link.inflight = true →
      exec (.captureNextTransfer l m sv rv) s = .refused .linkConfigureInFlight)

/-- Steps 2 and 3: the timer is reset and its capture channel and overflow match armed, and `TXF` holds the 8 words
`receiveValue + i` modulo 2 to the word length, in order; then the engine waits for chip-select. -/
def Obligations.CaptureArmsAndPreloads : Prop :=
  ∀ s : State, MainFor 12 (.cap .timerReset) s → s.txf = [] → s.cap.bits = s.link.bits → s.link.bits.toNat ≤ 16 →
    ∃ words : List Word,
      words.map BitVec.toNat =
        (List.range 8).map (fun i => (s.cap.recv0.toNat + i) % 2 ^ s.link.bits.toNat) ∧
      runs 12 s =
        .next { spent 12 s with
          timer :=
            { s.timer with
              en := false, cnt := 0, cap := 0, capArm := true, perEn := false, ovf := Config.machine.captureOverflowMatch,
              ovfEn := true, irqEn := false, irqPend := false }
          cap := { s.cap with txIndex := 8 }
          txf := words
          seq := .cap .waitCs }

/-- Step 4: the engine waits for chip-select as long as it takes, then starts the counter. Step 5: a non-zero read of `T.CAP`
is the first capture and the status `Success`; with `T.CAP` still 0 and a word in `RXF` or chip-select seen deasserted, the
counter's value is taken and the status is `EdgeNotDetected`. Both start the exchange; with neither the polling begins again. -/
def Obligations.CaptureFindsTheFirstEdge : Prop :=
  ∀ s : State,
    (∀ k, MainFor 1 (.cap (.poll k)) s → s.timer.cap ≠ 0 →
      step s = .next { spent 1 s with
        cap := { s.cap with
          cap1 := s.timer.cap, status := .success, rxValue := s.cap.send0.setWidth 32, crc := Config.machine.crc.init,
          mismatch := none }
        seq := .cap .cs }) ∧
    (∀ k, MainFor 1 (.cap (.poll k)) s → s.timer.cap = 0 →
      step s = .next { spent 1 s with
        seq := if k + 1 < Config.machine.capturePollReads then .cap (.poll (k + 1)) else .cap .pollCs }) ∧
    (MainFor 3 (.cap .pollCs) s → s.rxf ≠ [] ∨ s.cs = false →
      runs 3 s = .next { spent 3 s with
        cap := { s.cap with
          cap1 := s.timer.cnt, status := .edgeNotDetected, rxValue := s.cap.send0.setWidth 32,
          crc := Config.machine.crc.init, mismatch := none }
        seq := .cap .cs }) ∧
    (MainFor 2 (.cap .pollCs) s → s.rxf = [] → s.cs = true →
      runs 2 s = .next { spent 2 s with seq := .cap (.poll 0) }) ∧
    (MainFor 1 (.cap .waitCs) s → s.cs = false → step s = .next (spent 1 s)) ∧
    (MainFor 2 (.cap .waitCs) s → s.cs = true →
      runs 2 s = .next { spent 2 s with timer := { s.timer with en := true }, seq := .cap (.poll 0) })

/-- Step 6 on one received word: it is folded into the checksum (low byte, and the high byte of a word of more than 8
bits), compared with the expected word (only the first mismatch is kept), and counted. Then, or when no word is there and
chip-select is asserted, the next pattern word `receiveValue + i` is queued if there is space. The value given to `C.CRC` is the
model's choice (assumption log 20, DESIGN CHOICE): the register of the general form, which for the default variant is the bit
reversal of the register the spec's vectors show; what is stored at the end is the same in both. -/
def Obligations.CaptureTakesOneWord : Prop :=
  (∀ (s : State) (w : Word) (ws : List Word), MainFor 3 (.cap .cs) s → s.rxf = w :: ws →
    runs 3 s = .next { spent 3 s with
      rxf := ws
      cap := { s.cap with
        crc :=
          if 8 < s.cap.bits.toNat then
            crcByte Config.machine.crc (crcByte Config.machine.crc s.cap.crc (w.setWidth 8)) ((w >>> 8).setWidth 8)
          else crcByte Config.machine.crc s.cap.crc (w.setWidth 8)
        mismatch :=
          if s.cap.mismatch = none ∧ w ≠ s.cap.rxValue.setWidth 16 &&& mask s.cap.bits then
            some (s.cap.rxValue - s.cap.send0.setWidth 32)
          else s.cap.mismatch
        rxValue := s.cap.rxValue + 1 }
      seq := .cap .space }) ∧
  (∀ s : State, MainFor 2 (.cap .cs) s → s.rxf = [] → s.cs = true →
    runs 2 s = .next { spent 2 s with seq := .cap .space }) ∧
  (∀ s : State, MainFor 1 (.cap .space) s → 8 ≤ s.txf.length → step s = .next { spent 1 s with seq := .cap .cs }) ∧
  (∀ s : State, MainFor 2 (.cap .space) s → s.txf.length < 8 → s.cap.bits = s.link.bits → s.link.bits.toNat ≤ 16 →
    ∃ w : Word, w.toNat = (s.cap.recv0.toNat + s.cap.txIndex.toNat) % 2 ^ s.link.bits.toNat ∧
      runs 2 s = .next { spent 2 s with
        txf := s.txf ++ [w], cap := { s.cap with txIndex := s.cap.txIndex + 1 }, seq := .cap .cs })

/-- The whole exchange, however many words and whatever they are: the stored element count is the number of words
received, the checksum is `Compute` over all contributed bytes in arrival order, and the mismatch index is the index of the
first word that differs from `sendValue + k` modulo 2 to the word length, or the count if none does; the duration and the status
are stored as given. -/
def Obligations.CaptureReportsTheExchange : Prop :=
  ∀ (p : Params) (c : CaptureRegs) (words : List Word) (ticks : U32) (st : CaptureStatus),
    words.length < 2 ^ 32 → c.bits.toNat ≤ 16 → c.rxValue = c.send0.setWidth 32 → c.crc = p.crc.init →
    c.mismatch = none →
    let r := captureResult p (words.foldl (fun d w => acceptWord p w d) c) ticks st
    r.status = st ∧ r.clockActiveTicks = ticks ∧
    r.elementCount.toNat = words.length ∧
    r.checksum = compute p.crc (words.flatMap (checksumBytes c.bits)) ∧
    (∀ k (h : k < words.length), k < r.mismatchIndex.toNat →
      (words[k]).toNat = (c.send0.toNat + k) % 2 ^ c.bits.toNat) ∧
    r.mismatchIndex.toNat ≤ words.length ∧
    (∀ h : r.mismatchIndex.toNat < words.length,
      (words[r.mismatchIndex.toNat]).toNat ≠ (c.send0.toNat + r.mismatchIndex.toNat) % 2 ^ c.bits.toNat)

/-- The exchange ends when chip-select was seen deasserted and then `RXF` empty. Steps 7 and 8: after a first capture a second
one is taken, and then `Success` with the difference of the two captures while the counter is enabled and
`Overflow` with an unspecified duration when it was stopped; without one, `EdgeNotDetected` with an unspecified duration. Each
writes all five fields of `TRANSFER_RESULT`: the finished checksum, the count of the words, the index of the first mismatch or the
count if there is none, the duration and the status. That the overflow is looked at only after a successful first capture is the
model's reading (assumption log 27, DEDUCED), and the free duration its form of the spec's U1 (log 14). -/
def Obligations.CaptureStoresTheResult : Prop :=
  (∀ (s : State) (cap2 : U32), MainFor 1 (.cap (.overflowTest cap2)) s → s.timer.en = true →
    step s = .next { spent 1 s with
      transferResult :=
        { checksum := crcFinish Config.machine.crc s.cap.crc
          elementCount := s.cap.rxValue - s.cap.send0.setWidth 32
          mismatchIndex := s.cap.mismatch.getD (s.cap.rxValue - s.cap.send0.setWidth 32)
          clockActiveTicks := cap2 - s.cap.cap1
          status := .success }
      cap := { s.cap with status := .success }
      seq := .cap .exitTimer }) ∧
  (∀ (s : State) (cap2 : U32), MainFor 1 (.cap (.overflowTest cap2)) s → s.timer.en = false →
    ∃ free : U32, step s = .next { spent 1 s with
      transferResult :=
        { checksum := crcFinish Config.machine.crc s.cap.crc
          elementCount := s.cap.rxValue - s.cap.send0.setWidth 32
          mismatchIndex := s.cap.mismatch.getD (s.cap.rxValue - s.cap.send0.setWidth 32)
          clockActiveTicks := free
          status := .overflow }
      cap := { s.cap with status := .overflow }
      draws := s.draws + 1
      seq := .cap .exitTimer }) ∧
  (∀ s : State, MainFor 1 (.cap (.rx false)) s → s.rxf = [] → s.cap.status = .edgeNotDetected →
    ∃ free : U32, step s = .next { spent 1 s with
      transferResult :=
        { checksum := crcFinish Config.machine.crc s.cap.crc
          elementCount := s.cap.rxValue - s.cap.send0.setWidth 32
          mismatchIndex := s.cap.mismatch.getD (s.cap.rxValue - s.cap.send0.setWidth 32)
          clockActiveTicks := free
          status := .edgeNotDetected }
      draws := s.draws + 1
      seq := .cap .exitTimer }) ∧
  (∀ s : State, MainFor 2 (.cap (.rx false)) s → s.rxf = [] → s.cap.status = .success →
    runs 2 s = .next { spent 2 s with seq := .cap (.overflowTest s.timer.cap) })

/-- The clock relations of a capture are kept by every step: the counter is capped by the overflow match, and the first
capture is not 0 and not later than the last. So the duration a `Success` session stores is the exact difference of the two
captures: it does not wrap. -/
def Obligations.CaptureClockInvIsKept : Prop :=
  ∀ s t : State, CaptureClockInv s → step s = .next t →
    CaptureClockInv t ∧
    (∀ cap2 : U32, MainFor 1 (.cap (.overflowTest cap2)) s → s.timer.en = true →
      s.cap.cap1 ≠ 0 ∧ t.transferResult.clockActiveTicks.toNat + s.cap.cap1.toNat = cap2.toNat)

/-- Leaving a capture: the timer is reset and disabled, the link has its idle configuration (8-bit words, the default
mode) and both FIFOs are empty; the dispatcher is idle. -/
def Obligations.CaptureRestoresTheIdleLink : Prop :=
  ∀ s : State, MainFor 2 (.cap .exitTimer) s → s.link.inflight = false →
    runs 2 s = .next { spent 2 s with
      timer :=
        { s.timer with
          en := false, cnt := 0, cap := 0, capArm := false, perEn := false, ovfEn := false, irqEn := false,
          irqPend := false }
      link := { s.link with mode := Config.machine.defaultMode, bits := 8 }
      txf := []
      rxf := []
      seq := .idle }

/-! ### Periodic Interrupt Engine -/

/-- `StartPeriodicInterrupts` is refused with `ArithmeticOverflow` when the frequency is 0, when it is above the measurement
clock's, or when the total does not fit 32 bits: the result is empty but for that flag, nothing is armed, and Draining
follows. -/
def Obligations.StartPeriodicRefusesWhatCannotBeArmed : Prop :=
  ∀ (s : State) (f : U32) (d : Word),
    f = 0 ∨ Config.machine.fMeas < f.toNat ∨ 2 ^ 32 ≤ f.toNat * d.toNat →
    exec (.startPeriodicInterrupts f d) s =
      .next { s with isrResult := { IsrResult.zero with status := 0x01 }, seq := .per .drainEdgeDisable }

/-- `StartPeriodicInterrupts` with representable operands answers a next state: the result is emptied, the period (rounded
down) and the total are kept and the counts start at 0. With a duration of at least 1 `COUNTDOWN` and `P.LASTACK` start at the
total and arming begins; a duration of 0 is no overflow: the session completes at once with all counts 0 and no flag, and arms
nothing. Nothing else changes. -/
def Obligations.StartPeriodicLoadsTheSession : Prop :=
  ∀ (s : State) (f : U32) (d : Word),
    f ≠ 0 → f.toNat ≤ Config.machine.fMeas → f.toNat * d.toNat < 2 ^ 32 →
    ∃ period total : U32,
      period.toNat = Config.machine.fMeas / f.toNat ∧ total.toNat = f.toNat * d.toNat ∧
      (d ≠ 0 →
        exec (.startPeriodicInterrupts f d) s =
          .next { s with
            isrResult := IsrResult.zero
            per := { s.per with period := period, total := total, before := 0, after := 0, dup := 0, lastAck := total }
            countdown := total
            seq := .per .armTimerReset }) ∧
      (d = 0 →
        exec (.startPeriodicInterrupts f d) s =
          .next { s with
            isrResult := IsrResult.zero
            per := { s.per with period := period, total := total, before := 0, after := 0, dup := 0 }
            seq := .per .drainEdgeDisable })

/-- Arming: the timer is reset, its period match and interrupt are enabled with the session's period, the pin follows the
match output, the edge detector and the indicator are on: after 7 turns all of this is so and the counter stands at 0. The
8th turn starts the counter and changes nothing else. -/
def Obligations.ArmingProgramsTheTimer : Prop :=
  (∀ s : State, MainFor 7 (.per .armTimerReset) s →
    runs 7 s = .next { spent 7 s with
      timer :=
        { s.timer with
          en := false, cnt := 0, cap := 0, capArm := false, per := s.per.period, perEn := true, ovfEn := false,
          irqEn := true, irqPend := false }
      pinFunc := .matchOutput
      edge := { s.edge with en := true }
      ind := true
      seq := .per .armCounter }) ∧
  (∀ s : State, MainFor 1 (.per .armCounter) s →
    step s = .next { spent 1 s with timer := { s.timer with en := true }, seq := .per .loopTest })

/-- One pass of Running up to its wait: both FIFOs are cleared, `TXF` gets 8 filler bytes, and the edge status is cleared. -/
def Obligations.RunningPassPreloadsFiller : Prop :=
  ∀ s : State, MainFor 10 (.per .fifoClear) s → s.link.bits = 8 →
    runs 10 s = .next { spent 10 s with
      txf := List.replicate 8 (Config.machine.fillerByte.setWidth 16)
      rxf := []
      edge := { s.edge with status := false }
      seq := .per .waitEdge }

/-- The pass waits for a clock edge as long as it takes. After it, in this order and one a turn, the counter's value is
captured as the latency, the edge output is raised (so `EDGE_OUT` is high), and the interrupt is masked: after each of the three
nothing but what is named has changed. -/
def Obligations.AwaitAckCapturesTheLatency : Prop :=
  ∀ s : State,
    (MainFor 1 (.per .waitEdge) s → s.edge.status = false → step s = .next (spent 1 s)) ∧
    (MainFor 2 (.per .waitEdge) s → s.edge.status = true →
      runs 2 s = .next { spent 2 s with per := { s.per with latency := s.timer.cnt }, seq := .per .deassert }) ∧
    (MainFor 1 (.per .deassert) s →
      ∃ t, step s = .next t ∧ edgeOut t = true ∧
        t = { spent 1 s with timer := { s.timer with emo := true }, seq := .per .mask }) ∧
    (MainFor 1 (.per .mask) s → step s = .next { spent 1 s with imask := true, seq := .per .awaitCs })

/-- `AcknowledgeInterrupt` at Classify answers a next state, graded by `difference = P.LASTACK - COUNTDOWN`: 0 is a
duplicate with the invalid sentinel, 1 is on time with the captured latency, more is late with `(difference - 1) × period +
latency` modulo 2^32; `P.LASTACK` becomes `COUNTDOWN`, the reply is the latency and its complement, and nothing else changes
but the position. A negative difference classifies nothing: it drains the exchange and, when that ends, aborts the session with
`ArithmeticOverflow`. -/
def Obligations.AcknowledgementIsGradedByItsDifference : Prop :=
  (∀ s : State, s.seq = .per .classify →
    (s.countdown.toNat ≤ s.per.lastAck.toNat →
      ∃ (a : List Byte) (before after dup latency : U32),
        exec .acknowledgeInterrupt s =
          .next { s with
            per := { s.per with before := before, after := after, dup := dup, lastAck := s.countdown }
            reply := a
            seq := .per (.respondCs 0) } ∧
        a.length = 8 ∧ field32 a 0 = latency ∧ field32 a 4 = ~~~latency ∧
        (s.per.lastAck.toNat - s.countdown.toNat = 0 →
          latency = Config.machine.invalidLatency ∧ before = s.per.before ∧ after = s.per.after ∧
            dup = s.per.dup + 1) ∧
        (s.per.lastAck.toNat - s.countdown.toNat = 1 →
          latency = s.per.latency ∧ before = s.per.before + 1 ∧ after = s.per.after ∧ dup = s.per.dup) ∧
        (1 < s.per.lastAck.toNat - s.countdown.toNat →
          latency.toNat =
            ((s.per.lastAck.toNat - s.countdown.toNat - 1) * s.per.period.toNat + s.per.latency.toNat) % 2 ^ 32 ∧
          before = s.per.before ∧ after = s.per.after + 1 ∧ dup = s.per.dup)) ∧
    (s.per.lastAck.toNat < s.countdown.toNat →
      exec .acknowledgeInterrupt s = .next { s with seq := .drain .differenceNegative .cs })) ∧
  (∀ s : State, MainFor 1 (.drain .differenceNegative (.rx false)) s → s.rxf = [] →
    step s = .next { spent 1 s with
      isrResult := { s.isrResult with status := s.isrResult.status ||| 0x01 }, seq := .per (.unmask true) })

/-- A controller that acknowledges every one of `n` edges inside its window: `n` acknowledgements, each after `COUNTDOWN`
fell by one, add `n` to the count before the deadline and nothing to the other two. -/
def Obligations.AcknowledgingEveryEdgeCountsEveryEdge : Prop :=
  ∀ (p : Params) (s : State) (n : Nat), n ≤ s.countdown.toNat → s.per.lastAck = s.countdown →
    let t := (fun u : State => acknowledge p { u with countdown := u.countdown - 1 })^[n] s
    t.per.before = s.per.before + BitVec.ofNat 32 n ∧ t.per.after = s.per.after ∧ t.per.dup = s.per.dup ∧
    t.countdown.toNat = s.countdown.toNat - n ∧ t.per.lastAck = t.countdown

/-- The tests of AwaitAck and Respond in their order. AwaitAck: a byte in `RXF` is taken next, even if chip-select has already
gone; with no byte it waits while chip-select is asserted, and chip-select gone raises `IncompleteReceive`. Respond: chip-select
gone before the reply is queued raises `IncompleteTransmit`; `TXF` found empty raises `TransmitUnderrun`; otherwise a pass
queues one reply byte, or none when `TXF` is full. The interrupt is unmasked last: an abort goes to Draining, a good exchange
to the loop test. -/
def Obligations.RespondQueuesOrRaises : Prop :=
  ∀ (s : State) (i : Nat),
    (MainFor 2 (.per .awaitCs) s → s.rxf ≠ [] → runs 2 s = .next { spent 2 s with seq := .per .awaitPop }) ∧
    (MainFor 2 (.per .awaitCs) s → s.rxf = [] → s.cs = true → runs 2 s = .next (spent 2 s)) ∧
    (MainFor 2 (.per .awaitCs) s → s.rxf = [] → s.cs = false →
      runs 2 s = .next { spent 2 s with
        isrResult := { s.isrResult with status := s.isrResult.status ||| 0x08 }, seq := .per (.unmask true) }) ∧
    (MainFor 1 (.per (.respondCs i)) s → s.cs = false →
      runs 1 s = .next { spent 1 s with
        isrResult := { s.isrResult with status := s.isrResult.status ||| 0x04 },
        seq := .drain (.responded true) .cs }) ∧
    (MainFor 2 (.per (.respondCs i)) s → s.cs = true → s.txf = [] →
      runs 2 s = .next { spent 2 s with
        isrResult := { s.isrResult with status := s.isrResult.status ||| 0x02 },
        seq := .drain (.responded true) .cs }) ∧
    (MainFor 4 (.per (.respondCs i)) s → s.cs = true → s.txf ≠ [] → s.txf.length < 8 → s.link.bits = 8 →
      runs 4 s = .next { spent 4 s with
        txf := s.txf ++ [(s.reply.getD i 0).setWidth 16],
        seq := if i + 1 < 8 then .per (.respondCs (i + 1)) else .drain (.responded false) .cs }) ∧
    (MainFor 3 (.per (.respondCs i)) s → s.cs = true → 8 ≤ s.txf.length → runs 3 s = .next (spent 3 s)) ∧
    (∀ abort, MainFor 1 (.per (.unmask abort)) s →
      step s = .next { spent 1 s with
        imask := false, seq := if abort = true then .per .drainEdgeDisable else .per .loopTest })

/-- Natural completion: with `COUNTDOWN` at 0 the loop test writes the four counts of the session result, and Draining
follows; otherwise one more pass begins. -/
def Obligations.NaturalCompletionTallies : Prop :=
  ∀ s : State, MainFor 1 (.per .loopTest) s →
    step s =
      .next (if s.countdown = 0 then
        { spent 1 s with
          isrResult :=
            { totalEdges := s.per.total, beforeDeadline := s.per.before, afterDeadline := s.per.after,
              alreadyAcknowledged := s.per.dup, status := s.isrResult.status }
          seq := .per .drainEdgeDisable }
      else { spent 1 s with seq := .per .fifoClear })

/-- Draining restores every unit: edge detection off and clear, the timer reset with its interrupt, the output high on a
plain pin (so `EDGE_OUT` is high), the indicator off, and the dispatcher idle; the FIFOs are not touched. -/
def Obligations.DrainingRestoresEveryUnit : Prop :=
  ∀ s : State, MainFor 6 (.per .drainEdgeDisable) s →
    ∃ t, runs 6 s = .next t ∧ edgeOut t = true ∧
      t = { spent 6 s with
        edge := { en := false, status := false }
        timer :=
          { s.timer with
            en := false, cnt := 0, cap := 0, capArm := false, perEn := false, ovfEn := false, irqEn := false,
            irqPend := false, emo := true }
        pinFunc := .plainIO
        ind := false
        seq := .idle }

/-! ### Timer and handler -/

/-- `Tick` with the counter enabled: one more, or 0 with the output low and (if enabled) the interrupt requested at a period
match; the counter is stopped at the overflow match. With it disabled nothing changes. -/
def Obligations.TickAdvancesTheTimer : Prop :=
  ∀ (s : State) (rest : List Move), s.tape = .tick :: rest →
    (s.timer.en = false → step s = .next { s with tape := rest }) ∧
    (s.timer.en = true → s.timer.perEn = true → s.timer.cnt + 1 = s.timer.per →
      step s = .next { s with
        tape := rest
        timer := { s.timer with
          cnt := 0, emo := false, irqPend := s.timer.irqPend || s.timer.irqEn,
          en := !(s.timer.ovfEn && decide ((0 : U32) = s.timer.ovf)) } }) ∧
    (s.timer.en = true → s.timer.perEn = false ∨ s.timer.cnt + 1 ≠ s.timer.per →
      step s = .next { s with
        tape := rest
        timer := { s.timer with
          cnt := s.timer.cnt + 1, en := !(s.timer.ovfEn && decide (s.timer.cnt + 1 = s.timer.ovf)) } })

/-- The first edge event comes exactly `period` ticks after the counter starts from 0: before it the counter is the number
of ticks and nothing else changes; at it the counter is 0, the output low and the interrupt pending. The pin `EDGE_OUT` follows
the output with `MatchOutput` and is high with `PlainIO`, in every state; so at the event it is low on a `MatchOutput` pin. -/
def Obligations.EdgeEventComesAfterOnePeriod : Prop :=
  (∀ (s : State) (n : Nat) (rest : List Move), s.tape = List.replicate n .tick ++ rest →
    s.timer.en = true → s.timer.perEn = true → s.timer.ovfEn = false → s.timer.cnt = 0 → s.timer.irqEn = true →
    (n < s.timer.per.toNat →
      runs n s = .next { s with tape := rest, timer := { s.timer with cnt := BitVec.ofNat 32 n } }) ∧
    (n = s.timer.per.toNat → n ≠ 0 →
      ∃ t, runs n s = .next t ∧ edgeOut t = decide (s.pinFunc = .plainIO) ∧
        t = { s with tape := rest, timer := { s.timer with cnt := 0, emo := false, irqPend := true } })) ∧
  (∀ s : State, (s.pinFunc = .matchOutput → edgeOut s = s.timer.emo) ∧ (s.pinFunc = .plainIO → edgeOut s = true))

/-- The handler may start exactly when its request is pending, enabled and not masked; starting, it clears the request and
saves nothing. A turn of the handler that may not start changes nothing (the model's choice, assumption log 7, DESIGN
CHOICE). -/
def Obligations.HandlerStartsExactlyWhenAllowed : Prop :=
  ∀ (s : State) (rest : List Move), s.tape = .handler :: rest → s.handler = .notRunning →
    step s =
      .next (if s.timer.irqPend = true ∧ s.timer.irqEn = true ∧ s.imask = false then
        { s with tape := rest, handler := .decrement, timer := { s.timer with irqPend := false } }
      else { s with tape := rest })

/-- A whole run of the handler, with no other agent's turn between: the request is cleared and `COUNTDOWN` falls by one; when
it falls to 0 the period match and the interrupt are disabled and the counter goes on. Nothing else changes, and the main
flow's position is where it was. The handler's actions are the model's steps (assumption log 10). -/
def Obligations.HandlerCountsOneEdgeEvent : Prop :=
  ∀ (s : State) (rest : List Move), s.handler = .notRunning → s.timer.irqPend = true → s.timer.irqEn = true →
    s.imask = false →
    (s.countdown ≠ 1 → s.tape = .handler :: .handler :: rest →
      runs 2 s = .next { s with
        tape := rest, countdown := s.countdown - 1, timer := { s.timer with irqPend := false } }) ∧
    (s.countdown = 1 → s.tape = .handler :: .handler :: .handler :: .handler :: rest →
      runs 4 s = .next { s with
        tape := rest, countdown := 0,
        timer := { s.timer with irqPend := false, perEn := false, irqEn := false } })

/-! ### The link -/

/-- One word, from its start to its end: the head of `TXF` goes out, the word length gives the number of falling edges, the
controller's word arrives cut to that length, the edge detector is set if enabled, and the capture register holds the
counter if the channel was armed and the counter enabled; nothing else changes. -/
def Obligations.OneWordIsExchanged : Prop :=
  ∀ (s : State) (c w : Word) (ws : List Word) (rest : List Move),
    s.tape = .wordStart :: (List.replicate s.link.bits.toNat .sckFall ++ .wordEnd c :: rest) →
    s.cs = true → s.link.inflight = false → s.txf = w :: ws → s.rxf.length < 8 → s.link.bits ≠ 0 →
    runs (s.link.bits.toNat + 2) s =
      .next { s with
        tape := rest
        txf := ws
        rxf := s.rxf ++ [c &&& mask s.link.bits]
        link := { s.link with out := w, falls := 0 }
        edge := { s.edge with status := s.edge.status || s.edge.en }
        timer := { s.timer with cap := if s.timer.capArm = true ∧ s.timer.en = true then s.timer.cnt else s.timer.cap } }

/-- A word that starts with `TXF` empty sends an unspecified word of the link's length; a word that ends with `RXF` full is
lost; both go on (the spec's U3 and U4; assumption logs 12 and 15). -/
def Obligations.UnderrunAndOverrunGoOn : Prop :=
  ∀ (s : State) (rest : List Move),
    (s.tape = .wordStart :: rest → s.cs = true → s.link.inflight = false → s.txf = [] →
      ∃ free : Word, free &&& mask s.link.bits = free ∧
        step s = .next { s with
          tape := rest, draws := s.draws + 1,
          link := { s.link with out := free, inflight := true, falls := s.link.bits } }) ∧
    (∀ c, s.tape = .wordEnd c :: rest → s.link.inflight = true → s.link.falls = 0 → 8 ≤ s.rxf.length →
      step s = .next { s with tape := rest, link := { s.link with inflight := false } })

/-- Chip-select: asserted when deasserted; deasserted when asserted and no word is in flight; and inside a word the
controller cannot deassert it. That a tape may name such a turn, which is then spent and changes nothing, is the model's choice
(assumption log 7, DESIGN CHOICE). -/
def Obligations.ChipSelectMovesBetweenWords : Prop :=
  ∀ (s : State) (rest : List Move),
    (s.tape = .csAssert :: rest → s.cs = false → step s = .next { s with tape := rest, cs := true }) ∧
    (s.tape = .csDeassert :: rest → s.cs = true → s.link.inflight = false →
      step s = .next { s with tape := rest, cs := false }) ∧
    (s.tape = .csDeassert :: rest → s.link.inflight = true → step s = .next { s with tape := rest })

/-! ### Reset, `Init()` and the host -/

/-- What the reset table gives: results zero, FIFOs empty, no word in flight, timer registers 0 and disabled with the match
output high, edge detector off and clear, interrupt unmasked, pin plain, indicator off, chip-select deasserted. -/
def Obligations.ResetIsTheIdleTable : Prop :=
  State.reset.seq = .reset ∧ State.reset.transferResult = TransferResult.zero ∧
  State.reset.isrResult = IsrResult.zero ∧ State.reset.txf = [] ∧ State.reset.rxf = [] ∧
  State.reset.link.inflight = false ∧ State.reset.link.falls = 0 ∧
  State.reset.timer =
    { cnt := 0, en := false, per := 0, perEn := false, ovf := 0, ovfEn := false, cap := 0, capArm := false, emo := true,
      irqEn := false, irqPend := false } ∧
  State.reset.edge = { en := false, status := false } ∧ State.reset.imask = false ∧
  State.reset.pinFunc = .plainIO ∧ State.reset.ind = false ∧ State.reset.cs = false

/-- `Init()` from its first primitive, no word in flight: `DEVICE_INFO` holds the configuration's values,
both results are zero, the link is idle with empty FIFOs and every unit is idle; then the dispatcher is idle. That it takes 8
turns, the register writes going with the first primitive, is the model's choice (assumption log 9, DESIGN CHOICE). A maximum clock
frequency of 2^32 Hz or more, which the field cannot hold, leaves a free value there (log 5, DESIGN CHOICE). -/
def Obligations.InitEstablishesTheIdleState : Prop :=
  ∀ s : State, MainFor 8 (.init .link) s → s.link.inflight = false →
    ∃ d : DeviceInfo,
      d.deviceId = Config.machine.deviceId ∧ d.firmwareVersion = Config.machine.fwVersion ∧
      (min (Config.machine.fPclk / Config.machine.slaveClockDiv) Config.machine.maxClockCap < 2 ^ 32 →
        d.maxClockFrequency.toNat =
          min (Config.machine.fPclk / Config.machine.slaveClockDiv) Config.machine.maxClockCap) ∧
      d.measurementClockFrequency.toNat = Config.machine.fMeas ∧
      d.minDataBitLength.toNat = Config.machine.minBits ∧ d.maxDataBitLength.toNat = Config.machine.maxBits ∧
      runs 8 s = .next { spent 8 s with
        deviceInfo := d
        transferResult := TransferResult.zero
        isrResult := IsrResult.zero
        link := { s.link with mode := Config.machine.defaultMode, bits := 8 }
        txf := []
        rxf := []
        timer :=
          { s.timer with
            en := false, cnt := 0, cap := 0, capArm := false, perEn := false, ovfEn := false, irqEn := false,
            irqPend := false, emo := true }
        edge := { en := false, status := false }
        pinFunc := .plainIO
        ind := false
        imask := false
        seq := .idle }

/-- The host's two calls: `Init()` is taken at reset and refused after; `Poll()` is taken by the idle dispatcher and
refused anywhere else; from the handler both are refused (the spec's U8; assumption log 18). Without a
call the main flow does nothing at reset and at idle. -/
def Obligations.HostCallsInitOnceThenPoll : Prop :=
  ∀ (s : State) (rest : List Move),
    (s.tape = .callInit :: rest → s.handler = .notRunning →
      step s = if s.seq = .reset then .next { s with tape := rest, seq := .init .link } else .refused .initTwice) ∧
    (s.tape = .callPoll :: rest → s.handler = .notRunning → s.seq = .idle →
      step s = .next { s with tape := rest, seq := .recv .entry }) ∧
    (s.tape = .callPoll :: rest → s.handler = .notRunning → s.seq = .reset ∨ (∃ p, s.seq = .init p) →
      step s = .refused .pollBeforeInit) ∧
    (s.tape = .callPoll :: rest → s.handler = .notRunning → s.seq ≠ .idle → s.seq ≠ .reset →
      (∀ p, s.seq ≠ .init p) → step s = .refused .pollReentered) ∧
    (s.tape = .callInit :: rest ∨ s.tape = .callPoll :: rest → s.handler ≠ .notRunning →
      step s = .refused .callFromHandler) ∧
    (MainFor 1 .reset s ∨ MainFor 1 .idle s → step s = .next (spent 1 s))

/-! ### Rules of the whole machine -/

/-- `DEVICE_INFO` is immutable after initialization: no step changes it but the first primitive of `Init()`. The opcode
values, a parameter fixed for a run, are changed by no step at all. -/
def Obligations.DeviceInfoIsWrittenByInitOnly : Prop :=
  ∀ s t : State, step s = .next t → (s.seq ≠ .init .link → t.deviceInfo = s.deviceInfo) ∧ t.opcodes = s.opcodes

/-- `SEQ` advances only by the main flow's own steps: a turn of the handler, the timer or the controller leaves it; and while
the handler runs the main flow takes no step (the handler is atomic with respect to it). -/
def Obligations.OnlyTheMainFlowMovesTheSequencer : Prop :=
  (∀ (s t : State) (m : Move) (rest : List Move), s.tape = m :: rest →
    m ≠ .main → m ≠ .callInit → m ≠ .callPoll → step s = .next t → t.seq = s.seq) ∧
  (∀ (s : State) (rest : List Move), s.tape = .main :: rest → s.handler ≠ .notRunning →
    step s = .next { s with tape := rest })

/-- `COUNTDOWN` is the handler's alone after arming. No turn of another agent changes it, the interrupt masked or not, but the
main flow's dispatch of a command; of the commands only `StartPeriodicInterrupts` does, whose arming loads it. With the interrupt
masked and the handler not running no step at all but that dispatch changes it. -/
def Obligations.MaskedRegionKeepsTheCountdown : Prop :=
  (∀ s t : State, s.imask = true → s.handler = .notRunning → s.seq ≠ .dispatch → step s = .next t →
    t.countdown = s.countdown) ∧
  (∀ (s t : State) (m : Move) (rest : List Move), s.tape = m :: rest → m ≠ .handler → s.seq ≠ .dispatch →
    step s = .next t → t.countdown = s.countdown) ∧
  (∀ (s t : State) (i : Instr), (∀ f d, i ≠ .startPeriodicInterrupts f d) → exec i s = .next t →
    t.countdown = s.countdown)

/-- The controller has no access to any register: its turns change only chip-select, the FIFOs, the link's shift state, the
capture register, the edge status, and the count of free values drawn. -/
def Obligations.ControllerReachesOnlyTheLink : Prop :=
  ∀ (s t : State) (m : Move) (rest : List Move), s.tape = m :: rest →
    m = .wordStart ∨ m = .sckFall ∨ (∃ c, m = .wordEnd c) ∨ m = .csAssert ∨ m = .csDeassert → step s = .next t →
    t = { s with
      tape := rest, cs := t.cs, txf := t.txf, rxf := t.rxf, draws := t.draws,
      link := { s.link with inflight := t.link.inflight, falls := t.link.falls, out := t.link.out },
      timer := { s.timer with cap := t.timer.cap }, edge := { s.edge with status := t.edge.status } }

/-- Every invariant of the machine holds at reset, and the opcodes are six distinct bytes, those of the configuration. -/
def Obligations.InvariantsHoldAtReset : Prop :=
  fifosWf State.reset = true ∧ ShiftInv State.reset ∧ RoomInv State.reset ∧ EngineInv State.reset ∧
  CaptureClockInv State.reset ∧ CountdownInv State.reset ∧ ResultInv State.reset ∧
  State.reset.opcodes = Config.machine.opcodes ∧ State.reset.opcodes.wf = true

/-- Every step keeps the FIFOs in their form: at most 8 words each, each cut to the link's word length. -/
def Obligations.FifosStayWellFormed : Prop :=
  ∀ s t : State, fifosWf s = true → ShiftInv s → step s = .next t → fifosWf t = true ∧ ShiftInv t

/-- Every rule meets the preconditions of `TxPush` and `RxPop`: from a state that keeps the room the main flow relies on, no
step pushes into a full `TXF` or pops from an empty `RXF`, and every step keeps the room. -/
def Obligations.FifoPreconditionsHold : Prop :=
  ∀ s : State, RoomInv s → NoFifoMisuse (step s) ∧ ∀ t, step s = .next t → RoomInv t

/-- Every step keeps every unit in its idle condition outside the engine that uses it. So whenever the dispatcher is idle,
after `Init()` or after any command however it ended, every unit is idle, the interrupt unmasked and the link in 8-bit words. -/
def Obligations.EngineInvIsKept : Prop :=
  ∀ s : State, EngineInv s → (s.seq = .idle → UnitsIdle s) ∧ ∀ t, step s = .next t → EngineInv t

/-- Every step keeps `COUNTDOWN ≤ P.LASTACK` in a session and `COUNTDOWN ≥ 1` at the handler's entry, and never enters the
abort for a negative difference. -/
def Obligations.CountdownInvIsKept : Prop :=
  ∀ s t : State, CountdownInv s → step s = .next t → CountdownInv t

/-- Every step keeps at most one flag in `ISR_RESULT.Status`, and zero counts beside a flag. -/
def Obligations.ResultInvIsKept : Prop :=
  ∀ s t : State, ResultInv s → step s = .next t → ResultInv t
end

