-- ==== Sys2Proof/Laws/Bytes.lean ====
section
/-! SUPPORT. Byte order: the packing functions and the field reads undo each other, and what a buffer write leaves alone. -/

namespace Sys2Proof.Machine

theorem byteOf_toNat {w : Nat} (v : BitVec w) (k : Nat) : (byteOf v k).toNat = v.toNat / 256 ^ k % 256 := by
  simp [byteOf, Nat.shiftRight_eq_div_pow, Nat.pow_mul]

theorem or_shift_of_lt {x k : Nat} (y : Nat) (h : x < 2 ^ k) : x ||| (y <<< k) = x + y * 2 ^ k := by
  rw [Nat.or_comm, ← Nat.shiftLeft_add_eq_or_of_lt h, Nat.shiftLeft_eq, Nat.add_comm]

theorem rd16_toNat (b0 b1 : Byte) : (rd16 b0 b1).toNat = b0.toNat + 256 * b1.toNat := by
  have h0 := b0.isLt
  have h1 := b1.isLt
  have e : b1.toNat <<< 8 = b1.toNat * 256 := Nat.shiftLeft_eq ..
  rw [rd16, BitVec.toNat_or, BitVec.toNat_shiftLeft, BitVec.toNat_setWidth, BitVec.toNat_setWidth,
    Nat.mod_eq_of_lt (a := b0.toNat) (by omega), Nat.mod_eq_of_lt (a := b1.toNat) (by omega),
    Nat.mod_eq_of_lt (by omega), or_shift_of_lt _ (by omega)]
  omega

theorem rd32_toNat (b0 b1 b2 b3 : Byte) :
    (rd32 b0 b1 b2 b3).toNat = b0.toNat + 256 * b1.toNat + 65536 * b2.toNat + 16777216 * b3.toNat := by
  have h0 := b0.isLt
  have h1 := b1.isLt
  have h2 := b2.isLt
  have h3 := b3.isLt
  have e1 : b1.toNat <<< 8 = b1.toNat * 256 := Nat.shiftLeft_eq ..
  have e2 : b2.toNat <<< 16 = b2.toNat * 65536 := Nat.shiftLeft_eq ..
  have e3 : b3.toNat <<< 24 = b3.toNat * 16777216 := Nat.shiftLeft_eq ..
  simp only [rd32, BitVec.toNat_or, BitVec.toNat_shiftLeft, BitVec.toNat_setWidth]
  rw [Nat.mod_eq_of_lt (a := b0.toNat) (by omega), Nat.mod_eq_of_lt (a := b1.toNat) (by omega),
    Nat.mod_eq_of_lt (a := b2.toNat) (by omega), Nat.mod_eq_of_lt (a := b3.toNat) (by omega),
    Nat.mod_eq_of_lt (a := b1.toNat <<< 8) (by omega), Nat.mod_eq_of_lt (a := b2.toNat <<< 16) (by omega),
    Nat.mod_eq_of_lt (a := b3.toNat <<< 24) (by omega), or_shift_of_lt (x := b0.toNat) _ (by omega),
    or_shift_of_lt (k := 16) _ (by omega), or_shift_of_lt (k := 24) _ (by omega)]
  omega

theorem rd16_le16 (v : BitVec 16) : rd16 (byteOf v 0) (byteOf v 1) = v := by
  apply BitVec.eq_of_toNat_eq
  have := v.isLt
  rw [rd16_toNat, byteOf_toNat, byteOf_toNat]
  omega

theorem rd32_le32 (v : U32) : rd32 (byteOf v 0) (byteOf v 1) (byteOf v 2) (byteOf v 3) = v := by
  apply BitVec.eq_of_toNat_eq
  have := v.isLt
  rw [rd32_toNat, byteOf_toNat, byteOf_toNat, byteOf_toNat, byteOf_toNat]
  omega

@[simp] theorem le16_length (v : BitVec 16) : (le16 v).length = 2 := rfl

@[simp] theorem le32_length (v : U32) : (le32 v).length = 4 := rfl

theorem memWrite_length (buf : List Byte) (off : Nat) (bytes : List Byte) (h : off + bytes.length ≤ buf.length) :
    (memWrite buf off bytes).length = buf.length := by
  simp [memWrite]
  omega

theorem bytesOfNat_length (n v : Nat) : (bytesOfNat n v).length = n := by
  induction n generalizing v with
  | zero => rfl
  | succ n ih => simp [bytesOfNat, ih]

end Sys2Proof.Machine
end

