-- ==== Sys2Proof/Laws/Crc.lean ====
section
/-! SUPPORT. The Checksum Engine: the fold over concatenations, and the bit-reflected register. -/

namespace Sys2Proof.Machine

theorem crcFold_append (v : CrcVariant) (c : BitVec 16) (a b : List Byte) :
    crcFold v c (a ++ b) = crcFold v (crcFold v c a) b := List.foldl_append

theorem reverse_getLsbD (c : BitVec 16) (i : Nat) (h : i < 16) : c.reverse.getLsbD i = c.getLsbD (15 - i) := by
  rw [BitVec.getLsbD_reverse, BitVec.getMsbD_eq_getLsbD]
  simp [h]

theorem reverse_shiftLeft_one (c : BitVec 16) : (c <<< 1).reverse = c.reverse >>> 1 := by
  apply BitVec.eq_of_getLsbD_eq
  intro i hi
  rw [reverse_getLsbD _ _ hi, BitVec.getLsbD_ushiftRight, BitVec.getLsbD_shiftLeft]
  by_cases h : i = 15
  · subst h
    simp [BitVec.getLsbD_of_ge]
  · rw [reverse_getLsbD _ _ (by omega)]
    have h2 : decide (15 - i < 1) = false := by simp; omega
    have h3 : 15 - i - 1 = 15 - (1 + i) := by omega
    have h4 : decide (15 - i < 16) = true := by simp; omega
    rw [h2, h3, h4]
    simp

theorem reverse_bit0 (c : BitVec 16) : c.reverse.getLsbD 0 = c.getLsbD 15 := reverse_getLsbD c 0 (by decide)

theorem reverse_xor16 (a b : BitVec 16) : (a ^^^ b).reverse = a.reverse ^^^ b.reverse := by
  apply BitVec.eq_of_getLsbD_eq
  intro i hi
  rw [BitVec.getLsbD_xor]
  simp only [reverse_getLsbD _ _ hi, BitVec.getLsbD_xor]

/-- One repetition of the general form, seen on the reflected register, is one of the reflected form. -/
theorem crcShift_reverse (n : Nat) (c : BitVec 16) :
    (crcShift 0x8005 n c).reverse = crcShiftArc n c.reverse := by
  induction n generalizing c with
  | zero => rfl
  | succ n ih =>
    have hp : (0x8005 : BitVec 16).reverse = 0xA001 := by decide
    rw [crcShift, ih, crcShiftArc, reverse_bit0]
    split
    · rw [reverse_xor16, reverse_shiftLeft_one, hp]
    · rw [reverse_shiftLeft_one]

end Sys2Proof.Machine
end

