-- ==== Sys2Proof/Laws/Engines.lean ====
section
/-! SUPPORT. What each named update of the two engines does to each field, as Laws/State.lean says for the primitives: one
lemma per field, each true by `rfl`. -/

namespace Sys2Proof.Machine

variable (s : State)

/-! #### `countSent` -/

@[simp] theorem countSent_seq : (countSent s).seq = s.seq := rfl
@[simp] theorem countSent_handler : (countSent s).handler = s.handler := rfl
@[simp] theorem countSent_cmd : (countSent s).cmd = s.cmd := rfl
@[simp] theorem countSent_deviceInfo : (countSent s).deviceInfo = s.deviceInfo := rfl
@[simp] theorem countSent_transferResult : (countSent s).transferResult = s.transferResult := rfl
@[simp] theorem countSent_isrResult : (countSent s).isrResult = s.isrResult := rfl
@[simp] theorem countSent_frame : (countSent s).frame = s.frame := rfl
@[simp] theorem countSent_reply : (countSent s).reply = s.reply := rfl
@[simp] theorem countSent_cap : (countSent s).cap = { s.cap with txIndex := s.cap.txIndex + 1 } := rfl
@[simp] theorem countSent_per : (countSent s).per = s.per := rfl
@[simp] theorem countSent_countdown : (countSent s).countdown = s.countdown := rfl
@[simp] theorem countSent_cs : (countSent s).cs = s.cs := rfl
@[simp] theorem countSent_txf : (countSent s).txf = s.txf := rfl
@[simp] theorem countSent_rxf : (countSent s).rxf = s.rxf := rfl
@[simp] theorem countSent_link : (countSent s).link = s.link := rfl
@[simp] theorem countSent_timer : (countSent s).timer = s.timer := rfl
@[simp] theorem countSent_edge : (countSent s).edge = s.edge := rfl
@[simp] theorem countSent_imask : (countSent s).imask = s.imask := rfl
@[simp] theorem countSent_pinFunc : (countSent s).pinFunc = s.pinFunc := rfl
@[simp] theorem countSent_ind : (countSent s).ind = s.ind := rfl
@[simp] theorem countSent_log : (countSent s).log = s.log := rfl
@[simp] theorem countSent_tape : (countSent s).tape = s.tape := rfl
@[simp] theorem countSent_draws : (countSent s).draws = s.draws := rfl
@[simp] theorem countSent_opcodes : (countSent s).opcodes = s.opcodes := rfl

/-! #### `enterExchange` -/

@[simp] theorem enterExchange_seq (p : Params) (v : U32) (st : CaptureStatus) :
    (enterExchange p v st s).seq =
      .cap .cs := rfl
@[simp] theorem enterExchange_handler (p : Params) (v : U32) (st : CaptureStatus) :
    (enterExchange p v st s).handler =
      s.handler := rfl
@[simp] theorem enterExchange_cmd (p : Params) (v : U32) (st : CaptureStatus) :
    (enterExchange p v st s).cmd =
      s.cmd := rfl
@[simp] theorem enterExchange_deviceInfo (p : Params) (v : U32) (st : CaptureStatus) :
    (enterExchange p v st s).deviceInfo =
      s.deviceInfo := rfl
@[simp] theorem enterExchange_transferResult (p : Params) (v : U32) (st : CaptureStatus) :
    (enterExchange p v st s).transferResult =
      s.transferResult := rfl
@[simp] theorem enterExchange_isrResult (p : Params) (v : U32) (st : CaptureStatus) :
    (enterExchange p v st s).isrResult =
      s.isrResult := rfl
@[simp] theorem enterExchange_frame (p : Params) (v : U32) (st : CaptureStatus) :
    (enterExchange p v st s).frame =
      s.frame := rfl
@[simp] theorem enterExchange_reply (p : Params) (v : U32) (st : CaptureStatus) :
    (enterExchange p v st s).reply =
      s.reply := rfl
@[simp] theorem enterExchange_cap (p : Params) (v : U32) (st : CaptureStatus) :
    (enterExchange p v st s).cap =
      { s.cap with cap1 := v, status := st, rxValue := s.cap.send0.setWidth 32, crc := p.crc.init, mismatch := none } := rfl
@[simp] theorem enterExchange_per (p : Params) (v : U32) (st : CaptureStatus) :
    (enterExchange p v st s).per =
      s.per := rfl
@[simp] theorem enterExchange_countdown (p : Params) (v : U32) (st : CaptureStatus) :
    (enterExchange p v st s).countdown =
      s.countdown := rfl
@[simp] theorem enterExchange_cs (p : Params) (v : U32) (st : CaptureStatus) : (enterExchange p v st s).cs = s.cs := rfl
@[simp] theorem enterExchange_txf (p : Params) (v : U32) (st : CaptureStatus) :
    (enterExchange p v st s).txf =
      s.txf := rfl
@[simp] theorem enterExchange_rxf (p : Params) (v : U32) (st : CaptureStatus) :
    (enterExchange p v st s).rxf =
      s.rxf := rfl
@[simp] theorem enterExchange_link (p : Params) (v : U32) (st : CaptureStatus) :
    (enterExchange p v st s).link =
      s.link := rfl
@[simp] theorem enterExchange_timer (p : Params) (v : U32) (st : CaptureStatus) :
    (enterExchange p v st s).timer =
      s.timer := rfl
@[simp] theorem enterExchange_edge (p : Params) (v : U32) (st : CaptureStatus) :
    (enterExchange p v st s).edge =
      s.edge := rfl
@[simp] theorem enterExchange_imask (p : Params) (v : U32) (st : CaptureStatus) :
    (enterExchange p v st s).imask =
      s.imask := rfl
@[simp] theorem enterExchange_pinFunc (p : Params) (v : U32) (st : CaptureStatus) :
    (enterExchange p v st s).pinFunc =
      s.pinFunc := rfl
@[simp] theorem enterExchange_ind (p : Params) (v : U32) (st : CaptureStatus) :
    (enterExchange p v st s).ind =
      s.ind := rfl
@[simp] theorem enterExchange_log (p : Params) (v : U32) (st : CaptureStatus) :
    (enterExchange p v st s).log =
      s.log := rfl
@[simp] theorem enterExchange_tape (p : Params) (v : U32) (st : CaptureStatus) :
    (enterExchange p v st s).tape =
      s.tape := rfl
@[simp] theorem enterExchange_draws (p : Params) (v : U32) (st : CaptureStatus) :
    (enterExchange p v st s).draws =
      s.draws := rfl
@[simp] theorem enterExchange_opcodes (p : Params) (v : U32) (st : CaptureStatus) :
    (enterExchange p v st s).opcodes =
      s.opcodes := rfl

/-! #### `storeCapture` -/

@[simp] theorem storeCapture_seq (p : Params) (v : U32) (st : CaptureStatus) :
    (storeCapture p v st s).seq =
      .cap .exitTimer := rfl
@[simp] theorem storeCapture_handler (p : Params) (v : U32) (st : CaptureStatus) :
    (storeCapture p v st s).handler =
      s.handler := rfl
@[simp] theorem storeCapture_cmd (p : Params) (v : U32) (st : CaptureStatus) :
    (storeCapture p v st s).cmd =
      s.cmd := rfl
@[simp] theorem storeCapture_deviceInfo (p : Params) (v : U32) (st : CaptureStatus) :
    (storeCapture p v st s).deviceInfo =
      s.deviceInfo := rfl
@[simp] theorem storeCapture_transferResult (p : Params) (v : U32) (st : CaptureStatus) :
    (storeCapture p v st s).transferResult =
      captureResult p s.cap v st := rfl
@[simp] theorem storeCapture_isrResult (p : Params) (v : U32) (st : CaptureStatus) :
    (storeCapture p v st s).isrResult =
      s.isrResult := rfl
@[simp] theorem storeCapture_frame (p : Params) (v : U32) (st : CaptureStatus) :
    (storeCapture p v st s).frame =
      s.frame := rfl
@[simp] theorem storeCapture_reply (p : Params) (v : U32) (st : CaptureStatus) :
    (storeCapture p v st s).reply =
      s.reply := rfl
@[simp] theorem storeCapture_cap (p : Params) (v : U32) (st : CaptureStatus) :
    (storeCapture p v st s).cap =
      { s.cap with status := st } := rfl
@[simp] theorem storeCapture_per (p : Params) (v : U32) (st : CaptureStatus) :
    (storeCapture p v st s).per =
      s.per := rfl
@[simp] theorem storeCapture_countdown (p : Params) (v : U32) (st : CaptureStatus) :
    (storeCapture p v st s).countdown =
      s.countdown := rfl
@[simp] theorem storeCapture_cs (p : Params) (v : U32) (st : CaptureStatus) : (storeCapture p v st s).cs = s.cs := rfl
@[simp] theorem storeCapture_txf (p : Params) (v : U32) (st : CaptureStatus) :
    (storeCapture p v st s).txf =
      s.txf := rfl
@[simp] theorem storeCapture_rxf (p : Params) (v : U32) (st : CaptureStatus) :
    (storeCapture p v st s).rxf =
      s.rxf := rfl
@[simp] theorem storeCapture_link (p : Params) (v : U32) (st : CaptureStatus) :
    (storeCapture p v st s).link =
      s.link := rfl
@[simp] theorem storeCapture_timer (p : Params) (v : U32) (st : CaptureStatus) :
    (storeCapture p v st s).timer =
      s.timer := rfl
@[simp] theorem storeCapture_edge (p : Params) (v : U32) (st : CaptureStatus) :
    (storeCapture p v st s).edge =
      s.edge := rfl
@[simp] theorem storeCapture_imask (p : Params) (v : U32) (st : CaptureStatus) :
    (storeCapture p v st s).imask =
      s.imask := rfl
@[simp] theorem storeCapture_pinFunc (p : Params) (v : U32) (st : CaptureStatus) :
    (storeCapture p v st s).pinFunc =
      s.pinFunc := rfl
@[simp] theorem storeCapture_ind (p : Params) (v : U32) (st : CaptureStatus) :
    (storeCapture p v st s).ind =
      s.ind := rfl
@[simp] theorem storeCapture_log (p : Params) (v : U32) (st : CaptureStatus) :
    (storeCapture p v st s).log =
      s.log := rfl
@[simp] theorem storeCapture_tape (p : Params) (v : U32) (st : CaptureStatus) :
    (storeCapture p v st s).tape =
      s.tape := rfl
@[simp] theorem storeCapture_draws (p : Params) (v : U32) (st : CaptureStatus) :
    (storeCapture p v st s).draws =
      s.draws := rfl
@[simp] theorem storeCapture_opcodes (p : Params) (v : U32) (st : CaptureStatus) :
    (storeCapture p v st s).opcodes =
      s.opcodes := rfl

/-! #### `storeCaptureFree` -/

@[simp] theorem storeCaptureFree_seq (p : Params) (st : CaptureStatus) :
    (storeCaptureFree p st s).seq =
      .cap .exitTimer := rfl
@[simp] theorem storeCaptureFree_handler (p : Params) (st : CaptureStatus) :
    (storeCaptureFree p st s).handler =
      s.handler := rfl
@[simp] theorem storeCaptureFree_cmd (p : Params) (st : CaptureStatus) : (storeCaptureFree p st s).cmd = s.cmd := rfl
@[simp] theorem storeCaptureFree_deviceInfo (p : Params) (st : CaptureStatus) :
    (storeCaptureFree p st s).deviceInfo =
      s.deviceInfo := rfl
@[simp] theorem storeCaptureFree_transferResult (p : Params) (st : CaptureStatus) :
    (storeCaptureFree p st s).transferResult =
      captureResult p s.cap (Config.freeTicks s.draws) st := rfl
@[simp] theorem storeCaptureFree_isrResult (p : Params) (st : CaptureStatus) :
    (storeCaptureFree p st s).isrResult =
      s.isrResult := rfl
@[simp] theorem storeCaptureFree_frame (p : Params) (st : CaptureStatus) :
    (storeCaptureFree p st s).frame =
      s.frame := rfl
@[simp] theorem storeCaptureFree_reply (p : Params) (st : CaptureStatus) :
    (storeCaptureFree p st s).reply =
      s.reply := rfl
@[simp] theorem storeCaptureFree_cap (p : Params) (st : CaptureStatus) :
    (storeCaptureFree p st s).cap =
      { s.cap with status := st } := rfl
@[simp] theorem storeCaptureFree_per (p : Params) (st : CaptureStatus) : (storeCaptureFree p st s).per = s.per := rfl
@[simp] theorem storeCaptureFree_countdown (p : Params) (st : CaptureStatus) :
    (storeCaptureFree p st s).countdown =
      s.countdown := rfl
@[simp] theorem storeCaptureFree_cs (p : Params) (st : CaptureStatus) : (storeCaptureFree p st s).cs = s.cs := rfl
@[simp] theorem storeCaptureFree_txf (p : Params) (st : CaptureStatus) : (storeCaptureFree p st s).txf = s.txf := rfl
@[simp] theorem storeCaptureFree_rxf (p : Params) (st : CaptureStatus) : (storeCaptureFree p st s).rxf = s.rxf := rfl
@[simp] theorem storeCaptureFree_link (p : Params) (st : CaptureStatus) : (storeCaptureFree p st s).link = s.link := rfl
@[simp] theorem storeCaptureFree_timer (p : Params) (st : CaptureStatus) :
    (storeCaptureFree p st s).timer =
      s.timer := rfl
@[simp] theorem storeCaptureFree_edge (p : Params) (st : CaptureStatus) : (storeCaptureFree p st s).edge = s.edge := rfl
@[simp] theorem storeCaptureFree_imask (p : Params) (st : CaptureStatus) :
    (storeCaptureFree p st s).imask =
      s.imask := rfl
@[simp] theorem storeCaptureFree_pinFunc (p : Params) (st : CaptureStatus) :
    (storeCaptureFree p st s).pinFunc =
      s.pinFunc := rfl
@[simp] theorem storeCaptureFree_ind (p : Params) (st : CaptureStatus) : (storeCaptureFree p st s).ind = s.ind := rfl
@[simp] theorem storeCaptureFree_log (p : Params) (st : CaptureStatus) : (storeCaptureFree p st s).log = s.log := rfl
@[simp] theorem storeCaptureFree_tape (p : Params) (st : CaptureStatus) : (storeCaptureFree p st s).tape = s.tape := rfl
@[simp] theorem storeCaptureFree_draws (p : Params) (st : CaptureStatus) :
    (storeCaptureFree p st s).draws =
      s.draws + 1 := rfl
@[simp] theorem storeCaptureFree_opcodes (p : Params) (st : CaptureStatus) :
    (storeCaptureFree p st s).opcodes =
      s.opcodes := rfl

/-! #### `tally` -/

@[simp] theorem tally_seq : (tally s).seq = .per .drainEdgeDisable := rfl
@[simp] theorem tally_handler : (tally s).handler = s.handler := rfl
@[simp] theorem tally_cmd : (tally s).cmd = s.cmd := rfl
@[simp] theorem tally_deviceInfo : (tally s).deviceInfo = s.deviceInfo := rfl
@[simp] theorem tally_transferResult : (tally s).transferResult = s.transferResult := rfl
@[simp] theorem tally_isrResult :
    (tally s).isrResult =
      { s.isrResult with totalEdges := s.per.total, beforeDeadline := s.per.before, afterDeadline := s.per.after, alreadyAcknowledged := s.per.dup } := rfl
@[simp] theorem tally_frame : (tally s).frame = s.frame := rfl
@[simp] theorem tally_reply : (tally s).reply = s.reply := rfl
@[simp] theorem tally_cap : (tally s).cap = s.cap := rfl
@[simp] theorem tally_per : (tally s).per = s.per := rfl
@[simp] theorem tally_countdown : (tally s).countdown = s.countdown := rfl
@[simp] theorem tally_cs : (tally s).cs = s.cs := rfl
@[simp] theorem tally_txf : (tally s).txf = s.txf := rfl
@[simp] theorem tally_rxf : (tally s).rxf = s.rxf := rfl
@[simp] theorem tally_link : (tally s).link = s.link := rfl
@[simp] theorem tally_timer : (tally s).timer = s.timer := rfl
@[simp] theorem tally_edge : (tally s).edge = s.edge := rfl
@[simp] theorem tally_imask : (tally s).imask = s.imask := rfl
@[simp] theorem tally_pinFunc : (tally s).pinFunc = s.pinFunc := rfl
@[simp] theorem tally_ind : (tally s).ind = s.ind := rfl
@[simp] theorem tally_log : (tally s).log = s.log := rfl
@[simp] theorem tally_tape : (tally s).tape = s.tape := rfl
@[simp] theorem tally_draws : (tally s).draws = s.draws := rfl
@[simp] theorem tally_opcodes : (tally s).opcodes = s.opcodes := rfl

/-! #### `loadSession` -/

@[simp] theorem loadSession_seq (period total : U32) : (loadSession period total s).seq = s.seq := rfl
@[simp] theorem loadSession_handler (period total : U32) : (loadSession period total s).handler = s.handler := rfl
@[simp] theorem loadSession_cmd (period total : U32) : (loadSession period total s).cmd = s.cmd := rfl
@[simp] theorem loadSession_deviceInfo (period total : U32) :
    (loadSession period total s).deviceInfo =
      s.deviceInfo := rfl
@[simp] theorem loadSession_transferResult (period total : U32) :
    (loadSession period total s).transferResult =
      s.transferResult := rfl
@[simp] theorem loadSession_isrResult (period total : U32) : (loadSession period total s).isrResult = s.isrResult := rfl
@[simp] theorem loadSession_frame (period total : U32) : (loadSession period total s).frame = s.frame := rfl
@[simp] theorem loadSession_reply (period total : U32) : (loadSession period total s).reply = s.reply := rfl
@[simp] theorem loadSession_cap (period total : U32) : (loadSession period total s).cap = s.cap := rfl
@[simp] theorem loadSession_per (period total : U32) :
    (loadSession period total s).per =
      { s.per with period := period, total := total, before := 0, after := 0, dup := 0 } := rfl
@[simp] theorem loadSession_countdown (period total : U32) : (loadSession period total s).countdown = s.countdown := rfl
@[simp] theorem loadSession_cs (period total : U32) : (loadSession period total s).cs = s.cs := rfl
@[simp] theorem loadSession_txf (period total : U32) : (loadSession period total s).txf = s.txf := rfl
@[simp] theorem loadSession_rxf (period total : U32) : (loadSession period total s).rxf = s.rxf := rfl
@[simp] theorem loadSession_link (period total : U32) : (loadSession period total s).link = s.link := rfl
@[simp] theorem loadSession_timer (period total : U32) : (loadSession period total s).timer = s.timer := rfl
@[simp] theorem loadSession_edge (period total : U32) : (loadSession period total s).edge = s.edge := rfl
@[simp] theorem loadSession_imask (period total : U32) : (loadSession period total s).imask = s.imask := rfl
@[simp] theorem loadSession_pinFunc (period total : U32) : (loadSession period total s).pinFunc = s.pinFunc := rfl
@[simp] theorem loadSession_ind (period total : U32) : (loadSession period total s).ind = s.ind := rfl
@[simp] theorem loadSession_log (period total : U32) : (loadSession period total s).log = s.log := rfl
@[simp] theorem loadSession_tape (period total : U32) : (loadSession period total s).tape = s.tape := rfl
@[simp] theorem loadSession_draws (period total : U32) : (loadSession period total s).draws = s.draws := rfl
@[simp] theorem loadSession_opcodes (period total : U32) : (loadSession period total s).opcodes = s.opcodes := rfl

/-! #### `loadCountdown` -/

@[simp] theorem loadCountdown_seq (total : U32) : (loadCountdown total s).seq = .per .armTimerReset := rfl
@[simp] theorem loadCountdown_handler (total : U32) : (loadCountdown total s).handler = s.handler := rfl
@[simp] theorem loadCountdown_cmd (total : U32) : (loadCountdown total s).cmd = s.cmd := rfl
@[simp] theorem loadCountdown_deviceInfo (total : U32) : (loadCountdown total s).deviceInfo = s.deviceInfo := rfl
@[simp] theorem loadCountdown_transferResult (total : U32) :
    (loadCountdown total s).transferResult =
      s.transferResult := rfl
@[simp] theorem loadCountdown_isrResult (total : U32) : (loadCountdown total s).isrResult = s.isrResult := rfl
@[simp] theorem loadCountdown_frame (total : U32) : (loadCountdown total s).frame = s.frame := rfl
@[simp] theorem loadCountdown_reply (total : U32) : (loadCountdown total s).reply = s.reply := rfl
@[simp] theorem loadCountdown_cap (total : U32) : (loadCountdown total s).cap = s.cap := rfl
@[simp] theorem loadCountdown_per (total : U32) : (loadCountdown total s).per = { s.per with lastAck := total } := rfl
@[simp] theorem loadCountdown_countdown (total : U32) : (loadCountdown total s).countdown = total := rfl
@[simp] theorem loadCountdown_cs (total : U32) : (loadCountdown total s).cs = s.cs := rfl
@[simp] theorem loadCountdown_txf (total : U32) : (loadCountdown total s).txf = s.txf := rfl
@[simp] theorem loadCountdown_rxf (total : U32) : (loadCountdown total s).rxf = s.rxf := rfl
@[simp] theorem loadCountdown_link (total : U32) : (loadCountdown total s).link = s.link := rfl
@[simp] theorem loadCountdown_timer (total : U32) : (loadCountdown total s).timer = s.timer := rfl
@[simp] theorem loadCountdown_edge (total : U32) : (loadCountdown total s).edge = s.edge := rfl
@[simp] theorem loadCountdown_imask (total : U32) : (loadCountdown total s).imask = s.imask := rfl
@[simp] theorem loadCountdown_pinFunc (total : U32) : (loadCountdown total s).pinFunc = s.pinFunc := rfl
@[simp] theorem loadCountdown_ind (total : U32) : (loadCountdown total s).ind = s.ind := rfl
@[simp] theorem loadCountdown_log (total : U32) : (loadCountdown total s).log = s.log := rfl
@[simp] theorem loadCountdown_tape (total : U32) : (loadCountdown total s).tape = s.tape := rfl
@[simp] theorem loadCountdown_draws (total : U32) : (loadCountdown total s).draws = s.draws := rfl
@[simp] theorem loadCountdown_opcodes (total : U32) : (loadCountdown total s).opcodes = s.opcodes := rfl

/-! #### `respondWith` -/

@[simp] theorem respondWith_seq (v : U32) : (respondWith v s).seq = .per (.respondCs 0) := rfl
@[simp] theorem respondWith_handler (v : U32) : (respondWith v s).handler = s.handler := rfl
@[simp] theorem respondWith_cmd (v : U32) : (respondWith v s).cmd = s.cmd := rfl
@[simp] theorem respondWith_deviceInfo (v : U32) : (respondWith v s).deviceInfo = s.deviceInfo := rfl
@[simp] theorem respondWith_transferResult (v : U32) : (respondWith v s).transferResult = s.transferResult := rfl
@[simp] theorem respondWith_isrResult (v : U32) : (respondWith v s).isrResult = s.isrResult := rfl
@[simp] theorem respondWith_frame (v : U32) : (respondWith v s).frame = s.frame := rfl
@[simp] theorem respondWith_reply (v : U32) : (respondWith v s).reply = ackReply v := rfl
@[simp] theorem respondWith_cap (v : U32) : (respondWith v s).cap = s.cap := rfl
@[simp] theorem respondWith_per (v : U32) : (respondWith v s).per = { s.per with lastAck := s.countdown } := rfl
@[simp] theorem respondWith_countdown (v : U32) : (respondWith v s).countdown = s.countdown := rfl
@[simp] theorem respondWith_cs (v : U32) : (respondWith v s).cs = s.cs := rfl
@[simp] theorem respondWith_txf (v : U32) : (respondWith v s).txf = s.txf := rfl
@[simp] theorem respondWith_rxf (v : U32) : (respondWith v s).rxf = s.rxf := rfl
@[simp] theorem respondWith_link (v : U32) : (respondWith v s).link = s.link := rfl
@[simp] theorem respondWith_timer (v : U32) : (respondWith v s).timer = s.timer := rfl
@[simp] theorem respondWith_edge (v : U32) : (respondWith v s).edge = s.edge := rfl
@[simp] theorem respondWith_imask (v : U32) : (respondWith v s).imask = s.imask := rfl
@[simp] theorem respondWith_pinFunc (v : U32) : (respondWith v s).pinFunc = s.pinFunc := rfl
@[simp] theorem respondWith_ind (v : U32) : (respondWith v s).ind = s.ind := rfl
@[simp] theorem respondWith_log (v : U32) : (respondWith v s).log = s.log := rfl
@[simp] theorem respondWith_tape (v : U32) : (respondWith v s).tape = s.tape := rfl
@[simp] theorem respondWith_draws (v : U32) : (respondWith v s).draws = s.draws := rfl
@[simp] theorem respondWith_opcodes (v : U32) : (respondWith v s).opcodes = s.opcodes := rfl

end Sys2Proof.Machine
end

