-- ==== Sys2Proof/Laws/Flags.lean ====
section
/-! SUPPORT. What each status read says of the state, as a proposition; and the bits of the session bitset. -/

namespace Sys2Proof.Machine

variable (s : State)

@[simp] theorem csAsserted_eq : csAsserted s = s.cs := rfl

@[simp] theorem edgeStatus_eq : edgeStatus s = s.edge.status := rfl

@[simp] theorem txEmpty_iff : txEmpty s = true ↔ s.txf = [] := List.isEmpty_iff

@[simp] theorem txNotFull_iff : txNotFull s = true ↔ s.txf.length < 8 := decide_eq_true_iff

@[simp] theorem rxNotEmpty_iff : rxNotEmpty s = true ↔ s.rxf ≠ [] := by simp [rxNotEmpty]

@[simp] theorem handlerMayStart_iff :
    handlerMayStart s = true ↔ s.timer.irqPend = true ∧ s.timer.irqEn = true ∧ s.imask = false := by
  simp [handlerMayStart, and_assoc]

/-- The five bits are distinct, none is 0, and bits 5 to 7 belong to none of them (R332). -/
theorem anomaly_bits (x y : Anomaly) : (x.bit = y.bit ↔ x = y) ∧ x.bit ≠ 0 ∧ x.bit &&& 0xE0 = 0 := by
  cases x <;> cases y <;> decide

end Sys2Proof.Machine
end

