-- ==== Sys2Proof/Laws/State.lean ====
section
/-! SUPPORT. What each named update of the state does to each field: one lemma per field, each true by `rfl`, so that no later
proof unfolds a record update. -/

namespace Sys2Proof.Machine

variable (s : State)

/-! #### `goTo` -/

@[simp] theorem goTo_seq (q : Seq) : (goTo q s).seq = q := rfl
@[simp] theorem goTo_handler (q : Seq) : (goTo q s).handler = s.handler := rfl
@[simp] theorem goTo_cmd (q : Seq) : (goTo q s).cmd = s.cmd := rfl
@[simp] theorem goTo_deviceInfo (q : Seq) : (goTo q s).deviceInfo = s.deviceInfo := rfl
@[simp] theorem goTo_transferResult (q : Seq) : (goTo q s).transferResult = s.transferResult := rfl
@[simp] theorem goTo_isrResult (q : Seq) : (goTo q s).isrResult = s.isrResult := rfl
@[simp] theorem goTo_frame (q : Seq) : (goTo q s).frame = s.frame := rfl
@[simp] theorem goTo_reply (q : Seq) : (goTo q s).reply = s.reply := rfl
@[simp] theorem goTo_cap (q : Seq) : (goTo q s).cap = s.cap := rfl
@[simp] theorem goTo_per (q : Seq) : (goTo q s).per = s.per := rfl
@[simp] theorem goTo_countdown (q : Seq) : (goTo q s).countdown = s.countdown := rfl
@[simp] theorem goTo_cs (q : Seq) : (goTo q s).cs = s.cs := rfl
@[simp] theorem goTo_txf (q : Seq) : (goTo q s).txf = s.txf := rfl
@[simp] theorem goTo_rxf (q : Seq) : (goTo q s).rxf = s.rxf := rfl
@[simp] theorem goTo_link (q : Seq) : (goTo q s).link = s.link := rfl
@[simp] theorem goTo_timer (q : Seq) : (goTo q s).timer = s.timer := rfl
@[simp] theorem goTo_edge (q : Seq) : (goTo q s).edge = s.edge := rfl
@[simp] theorem goTo_imask (q : Seq) : (goTo q s).imask = s.imask := rfl
@[simp] theorem goTo_pinFunc (q : Seq) : (goTo q s).pinFunc = s.pinFunc := rfl
@[simp] theorem goTo_ind (q : Seq) : (goTo q s).ind = s.ind := rfl
@[simp] theorem goTo_log (q : Seq) : (goTo q s).log = s.log := rfl
@[simp] theorem goTo_tape (q : Seq) : (goTo q s).tape = s.tape := rfl
@[simp] theorem goTo_draws (q : Seq) : (goTo q s).draws = s.draws := rfl
@[simp] theorem goTo_opcodes (q : Seq) : (goTo q s).opcodes = s.opcodes := rfl

/-! #### `timerReset` -/

@[simp] theorem timerReset_seq : (timerReset s).seq = s.seq := rfl
@[simp] theorem timerReset_handler : (timerReset s).handler = s.handler := rfl
@[simp] theorem timerReset_cmd : (timerReset s).cmd = s.cmd := rfl
@[simp] theorem timerReset_deviceInfo : (timerReset s).deviceInfo = s.deviceInfo := rfl
@[simp] theorem timerReset_transferResult : (timerReset s).transferResult = s.transferResult := rfl
@[simp] theorem timerReset_isrResult : (timerReset s).isrResult = s.isrResult := rfl
@[simp] theorem timerReset_frame : (timerReset s).frame = s.frame := rfl
@[simp] theorem timerReset_reply : (timerReset s).reply = s.reply := rfl
@[simp] theorem timerReset_cap : (timerReset s).cap = s.cap := rfl
@[simp] theorem timerReset_per : (timerReset s).per = s.per := rfl
@[simp] theorem timerReset_countdown : (timerReset s).countdown = s.countdown := rfl
@[simp] theorem timerReset_cs : (timerReset s).cs = s.cs := rfl
@[simp] theorem timerReset_txf : (timerReset s).txf = s.txf := rfl
@[simp] theorem timerReset_rxf : (timerReset s).rxf = s.rxf := rfl
@[simp] theorem timerReset_link : (timerReset s).link = s.link := rfl
@[simp] theorem timerReset_timer :
    (timerReset s).timer =
      { s.timer with en := false, cnt := 0, cap := 0, capArm := false, perEn := false, ovfEn := false, irqEn := false, irqPend := false } := rfl
@[simp] theorem timerReset_edge : (timerReset s).edge = s.edge := rfl
@[simp] theorem timerReset_imask : (timerReset s).imask = s.imask := rfl
@[simp] theorem timerReset_pinFunc : (timerReset s).pinFunc = s.pinFunc := rfl
@[simp] theorem timerReset_ind : (timerReset s).ind = s.ind := rfl
@[simp] theorem timerReset_log : (timerReset s).log = s.log := rfl
@[simp] theorem timerReset_tape : (timerReset s).tape = s.tape := rfl
@[simp] theorem timerReset_draws : (timerReset s).draws = s.draws := rfl
@[simp] theorem timerReset_opcodes : (timerReset s).opcodes = s.opcodes := rfl

/-! #### `setPeriod` -/

@[simp] theorem setPeriod_seq (v : U32) : (setPeriod v s).seq = s.seq := rfl
@[simp] theorem setPeriod_handler (v : U32) : (setPeriod v s).handler = s.handler := rfl
@[simp] theorem setPeriod_cmd (v : U32) : (setPeriod v s).cmd = s.cmd := rfl
@[simp] theorem setPeriod_deviceInfo (v : U32) : (setPeriod v s).deviceInfo = s.deviceInfo := rfl
@[simp] theorem setPeriod_transferResult (v : U32) : (setPeriod v s).transferResult = s.transferResult := rfl
@[simp] theorem setPeriod_isrResult (v : U32) : (setPeriod v s).isrResult = s.isrResult := rfl
@[simp] theorem setPeriod_frame (v : U32) : (setPeriod v s).frame = s.frame := rfl
@[simp] theorem setPeriod_reply (v : U32) : (setPeriod v s).reply = s.reply := rfl
@[simp] theorem setPeriod_cap (v : U32) : (setPeriod v s).cap = s.cap := rfl
@[simp] theorem setPeriod_per (v : U32) : (setPeriod v s).per = s.per := rfl
@[simp] theorem setPeriod_countdown (v : U32) : (setPeriod v s).countdown = s.countdown := rfl
@[simp] theorem setPeriod_cs (v : U32) : (setPeriod v s).cs = s.cs := rfl
@[simp] theorem setPeriod_txf (v : U32) : (setPeriod v s).txf = s.txf := rfl
@[simp] theorem setPeriod_rxf (v : U32) : (setPeriod v s).rxf = s.rxf := rfl
@[simp] theorem setPeriod_link (v : U32) : (setPeriod v s).link = s.link := rfl
@[simp] theorem setPeriod_timer (v : U32) : (setPeriod v s).timer = { s.timer with per := v } := rfl
@[simp] theorem setPeriod_edge (v : U32) : (setPeriod v s).edge = s.edge := rfl
@[simp] theorem setPeriod_imask (v : U32) : (setPeriod v s).imask = s.imask := rfl
@[simp] theorem setPeriod_pinFunc (v : U32) : (setPeriod v s).pinFunc = s.pinFunc := rfl
@[simp] theorem setPeriod_ind (v : U32) : (setPeriod v s).ind = s.ind := rfl
@[simp] theorem setPeriod_log (v : U32) : (setPeriod v s).log = s.log := rfl
@[simp] theorem setPeriod_tape (v : U32) : (setPeriod v s).tape = s.tape := rfl
@[simp] theorem setPeriod_draws (v : U32) : (setPeriod v s).draws = s.draws := rfl
@[simp] theorem setPeriod_opcodes (v : U32) : (setPeriod v s).opcodes = s.opcodes := rfl

/-! #### `setPeriodEnable` -/

@[simp] theorem setPeriodEnable_seq (b : Bool) : (setPeriodEnable b s).seq = s.seq := rfl
@[simp] theorem setPeriodEnable_handler (b : Bool) : (setPeriodEnable b s).handler = s.handler := rfl
@[simp] theorem setPeriodEnable_cmd (b : Bool) : (setPeriodEnable b s).cmd = s.cmd := rfl
@[simp] theorem setPeriodEnable_deviceInfo (b : Bool) : (setPeriodEnable b s).deviceInfo = s.deviceInfo := rfl
@[simp] theorem setPeriodEnable_transferResult (b : Bool) :
    (setPeriodEnable b s).transferResult =
      s.transferResult := rfl
@[simp] theorem setPeriodEnable_isrResult (b : Bool) : (setPeriodEnable b s).isrResult = s.isrResult := rfl
@[simp] theorem setPeriodEnable_frame (b : Bool) : (setPeriodEnable b s).frame = s.frame := rfl
@[simp] theorem setPeriodEnable_reply (b : Bool) : (setPeriodEnable b s).reply = s.reply := rfl
@[simp] theorem setPeriodEnable_cap (b : Bool) : (setPeriodEnable b s).cap = s.cap := rfl
@[simp] theorem setPeriodEnable_per (b : Bool) : (setPeriodEnable b s).per = s.per := rfl
@[simp] theorem setPeriodEnable_countdown (b : Bool) : (setPeriodEnable b s).countdown = s.countdown := rfl
@[simp] theorem setPeriodEnable_cs (b : Bool) : (setPeriodEnable b s).cs = s.cs := rfl
@[simp] theorem setPeriodEnable_txf (b : Bool) : (setPeriodEnable b s).txf = s.txf := rfl
@[simp] theorem setPeriodEnable_rxf (b : Bool) : (setPeriodEnable b s).rxf = s.rxf := rfl
@[simp] theorem setPeriodEnable_link (b : Bool) : (setPeriodEnable b s).link = s.link := rfl
@[simp] theorem setPeriodEnable_timer (b : Bool) : (setPeriodEnable b s).timer = { s.timer with perEn := b } := rfl
@[simp] theorem setPeriodEnable_edge (b : Bool) : (setPeriodEnable b s).edge = s.edge := rfl
@[simp] theorem setPeriodEnable_imask (b : Bool) : (setPeriodEnable b s).imask = s.imask := rfl
@[simp] theorem setPeriodEnable_pinFunc (b : Bool) : (setPeriodEnable b s).pinFunc = s.pinFunc := rfl
@[simp] theorem setPeriodEnable_ind (b : Bool) : (setPeriodEnable b s).ind = s.ind := rfl
@[simp] theorem setPeriodEnable_log (b : Bool) : (setPeriodEnable b s).log = s.log := rfl
@[simp] theorem setPeriodEnable_tape (b : Bool) : (setPeriodEnable b s).tape = s.tape := rfl
@[simp] theorem setPeriodEnable_draws (b : Bool) : (setPeriodEnable b s).draws = s.draws := rfl
@[simp] theorem setPeriodEnable_opcodes (b : Bool) : (setPeriodEnable b s).opcodes = s.opcodes := rfl

/-! #### `setOverflow` -/

@[simp] theorem setOverflow_seq (v : U32) : (setOverflow v s).seq = s.seq := rfl
@[simp] theorem setOverflow_handler (v : U32) : (setOverflow v s).handler = s.handler := rfl
@[simp] theorem setOverflow_cmd (v : U32) : (setOverflow v s).cmd = s.cmd := rfl
@[simp] theorem setOverflow_deviceInfo (v : U32) : (setOverflow v s).deviceInfo = s.deviceInfo := rfl
@[simp] theorem setOverflow_transferResult (v : U32) : (setOverflow v s).transferResult = s.transferResult := rfl
@[simp] theorem setOverflow_isrResult (v : U32) : (setOverflow v s).isrResult = s.isrResult := rfl
@[simp] theorem setOverflow_frame (v : U32) : (setOverflow v s).frame = s.frame := rfl
@[simp] theorem setOverflow_reply (v : U32) : (setOverflow v s).reply = s.reply := rfl
@[simp] theorem setOverflow_cap (v : U32) : (setOverflow v s).cap = s.cap := rfl
@[simp] theorem setOverflow_per (v : U32) : (setOverflow v s).per = s.per := rfl
@[simp] theorem setOverflow_countdown (v : U32) : (setOverflow v s).countdown = s.countdown := rfl
@[simp] theorem setOverflow_cs (v : U32) : (setOverflow v s).cs = s.cs := rfl
@[simp] theorem setOverflow_txf (v : U32) : (setOverflow v s).txf = s.txf := rfl
@[simp] theorem setOverflow_rxf (v : U32) : (setOverflow v s).rxf = s.rxf := rfl
@[simp] theorem setOverflow_link (v : U32) : (setOverflow v s).link = s.link := rfl
@[simp] theorem setOverflow_timer (v : U32) : (setOverflow v s).timer = { s.timer with ovf := v } := rfl
@[simp] theorem setOverflow_edge (v : U32) : (setOverflow v s).edge = s.edge := rfl
@[simp] theorem setOverflow_imask (v : U32) : (setOverflow v s).imask = s.imask := rfl
@[simp] theorem setOverflow_pinFunc (v : U32) : (setOverflow v s).pinFunc = s.pinFunc := rfl
@[simp] theorem setOverflow_ind (v : U32) : (setOverflow v s).ind = s.ind := rfl
@[simp] theorem setOverflow_log (v : U32) : (setOverflow v s).log = s.log := rfl
@[simp] theorem setOverflow_tape (v : U32) : (setOverflow v s).tape = s.tape := rfl
@[simp] theorem setOverflow_draws (v : U32) : (setOverflow v s).draws = s.draws := rfl
@[simp] theorem setOverflow_opcodes (v : U32) : (setOverflow v s).opcodes = s.opcodes := rfl

/-! #### `setOverflowEnable` -/

@[simp] theorem setOverflowEnable_seq (b : Bool) : (setOverflowEnable b s).seq = s.seq := rfl
@[simp] theorem setOverflowEnable_handler (b : Bool) : (setOverflowEnable b s).handler = s.handler := rfl
@[simp] theorem setOverflowEnable_cmd (b : Bool) : (setOverflowEnable b s).cmd = s.cmd := rfl
@[simp] theorem setOverflowEnable_deviceInfo (b : Bool) : (setOverflowEnable b s).deviceInfo = s.deviceInfo := rfl
@[simp] theorem setOverflowEnable_transferResult (b : Bool) :
    (setOverflowEnable b s).transferResult =
      s.transferResult := rfl
@[simp] theorem setOverflowEnable_isrResult (b : Bool) : (setOverflowEnable b s).isrResult = s.isrResult := rfl
@[simp] theorem setOverflowEnable_frame (b : Bool) : (setOverflowEnable b s).frame = s.frame := rfl
@[simp] theorem setOverflowEnable_reply (b : Bool) : (setOverflowEnable b s).reply = s.reply := rfl
@[simp] theorem setOverflowEnable_cap (b : Bool) : (setOverflowEnable b s).cap = s.cap := rfl
@[simp] theorem setOverflowEnable_per (b : Bool) : (setOverflowEnable b s).per = s.per := rfl
@[simp] theorem setOverflowEnable_countdown (b : Bool) : (setOverflowEnable b s).countdown = s.countdown := rfl
@[simp] theorem setOverflowEnable_cs (b : Bool) : (setOverflowEnable b s).cs = s.cs := rfl
@[simp] theorem setOverflowEnable_txf (b : Bool) : (setOverflowEnable b s).txf = s.txf := rfl
@[simp] theorem setOverflowEnable_rxf (b : Bool) : (setOverflowEnable b s).rxf = s.rxf := rfl
@[simp] theorem setOverflowEnable_link (b : Bool) : (setOverflowEnable b s).link = s.link := rfl
@[simp] theorem setOverflowEnable_timer (b : Bool) : (setOverflowEnable b s).timer = { s.timer with ovfEn := b } := rfl
@[simp] theorem setOverflowEnable_edge (b : Bool) : (setOverflowEnable b s).edge = s.edge := rfl
@[simp] theorem setOverflowEnable_imask (b : Bool) : (setOverflowEnable b s).imask = s.imask := rfl
@[simp] theorem setOverflowEnable_pinFunc (b : Bool) : (setOverflowEnable b s).pinFunc = s.pinFunc := rfl
@[simp] theorem setOverflowEnable_ind (b : Bool) : (setOverflowEnable b s).ind = s.ind := rfl
@[simp] theorem setOverflowEnable_log (b : Bool) : (setOverflowEnable b s).log = s.log := rfl
@[simp] theorem setOverflowEnable_tape (b : Bool) : (setOverflowEnable b s).tape = s.tape := rfl
@[simp] theorem setOverflowEnable_draws (b : Bool) : (setOverflowEnable b s).draws = s.draws := rfl
@[simp] theorem setOverflowEnable_opcodes (b : Bool) : (setOverflowEnable b s).opcodes = s.opcodes := rfl

/-! #### `setCaptureArm` -/

@[simp] theorem setCaptureArm_seq (b : Bool) : (setCaptureArm b s).seq = s.seq := rfl
@[simp] theorem setCaptureArm_handler (b : Bool) : (setCaptureArm b s).handler = s.handler := rfl
@[simp] theorem setCaptureArm_cmd (b : Bool) : (setCaptureArm b s).cmd = s.cmd := rfl
@[simp] theorem setCaptureArm_deviceInfo (b : Bool) : (setCaptureArm b s).deviceInfo = s.deviceInfo := rfl
@[simp] theorem setCaptureArm_transferResult (b : Bool) : (setCaptureArm b s).transferResult = s.transferResult := rfl
@[simp] theorem setCaptureArm_isrResult (b : Bool) : (setCaptureArm b s).isrResult = s.isrResult := rfl
@[simp] theorem setCaptureArm_frame (b : Bool) : (setCaptureArm b s).frame = s.frame := rfl
@[simp] theorem setCaptureArm_reply (b : Bool) : (setCaptureArm b s).reply = s.reply := rfl
@[simp] theorem setCaptureArm_cap (b : Bool) : (setCaptureArm b s).cap = s.cap := rfl
@[simp] theorem setCaptureArm_per (b : Bool) : (setCaptureArm b s).per = s.per := rfl
@[simp] theorem setCaptureArm_countdown (b : Bool) : (setCaptureArm b s).countdown = s.countdown := rfl
@[simp] theorem setCaptureArm_cs (b : Bool) : (setCaptureArm b s).cs = s.cs := rfl
@[simp] theorem setCaptureArm_txf (b : Bool) : (setCaptureArm b s).txf = s.txf := rfl
@[simp] theorem setCaptureArm_rxf (b : Bool) : (setCaptureArm b s).rxf = s.rxf := rfl
@[simp] theorem setCaptureArm_link (b : Bool) : (setCaptureArm b s).link = s.link := rfl
@[simp] theorem setCaptureArm_timer (b : Bool) : (setCaptureArm b s).timer = { s.timer with capArm := b } := rfl
@[simp] theorem setCaptureArm_edge (b : Bool) : (setCaptureArm b s).edge = s.edge := rfl
@[simp] theorem setCaptureArm_imask (b : Bool) : (setCaptureArm b s).imask = s.imask := rfl
@[simp] theorem setCaptureArm_pinFunc (b : Bool) : (setCaptureArm b s).pinFunc = s.pinFunc := rfl
@[simp] theorem setCaptureArm_ind (b : Bool) : (setCaptureArm b s).ind = s.ind := rfl
@[simp] theorem setCaptureArm_log (b : Bool) : (setCaptureArm b s).log = s.log := rfl
@[simp] theorem setCaptureArm_tape (b : Bool) : (setCaptureArm b s).tape = s.tape := rfl
@[simp] theorem setCaptureArm_draws (b : Bool) : (setCaptureArm b s).draws = s.draws := rfl
@[simp] theorem setCaptureArm_opcodes (b : Bool) : (setCaptureArm b s).opcodes = s.opcodes := rfl

/-! #### `setIrqEnable` -/

@[simp] theorem setIrqEnable_seq (b : Bool) : (setIrqEnable b s).seq = s.seq := rfl
@[simp] theorem setIrqEnable_handler (b : Bool) : (setIrqEnable b s).handler = s.handler := rfl
@[simp] theorem setIrqEnable_cmd (b : Bool) : (setIrqEnable b s).cmd = s.cmd := rfl
@[simp] theorem setIrqEnable_deviceInfo (b : Bool) : (setIrqEnable b s).deviceInfo = s.deviceInfo := rfl
@[simp] theorem setIrqEnable_transferResult (b : Bool) : (setIrqEnable b s).transferResult = s.transferResult := rfl
@[simp] theorem setIrqEnable_isrResult (b : Bool) : (setIrqEnable b s).isrResult = s.isrResult := rfl
@[simp] theorem setIrqEnable_frame (b : Bool) : (setIrqEnable b s).frame = s.frame := rfl
@[simp] theorem setIrqEnable_reply (b : Bool) : (setIrqEnable b s).reply = s.reply := rfl
@[simp] theorem setIrqEnable_cap (b : Bool) : (setIrqEnable b s).cap = s.cap := rfl
@[simp] theorem setIrqEnable_per (b : Bool) : (setIrqEnable b s).per = s.per := rfl
@[simp] theorem setIrqEnable_countdown (b : Bool) : (setIrqEnable b s).countdown = s.countdown := rfl
@[simp] theorem setIrqEnable_cs (b : Bool) : (setIrqEnable b s).cs = s.cs := rfl
@[simp] theorem setIrqEnable_txf (b : Bool) : (setIrqEnable b s).txf = s.txf := rfl
@[simp] theorem setIrqEnable_rxf (b : Bool) : (setIrqEnable b s).rxf = s.rxf := rfl
@[simp] theorem setIrqEnable_link (b : Bool) : (setIrqEnable b s).link = s.link := rfl
@[simp] theorem setIrqEnable_timer (b : Bool) : (setIrqEnable b s).timer = { s.timer with irqEn := b } := rfl
@[simp] theorem setIrqEnable_edge (b : Bool) : (setIrqEnable b s).edge = s.edge := rfl
@[simp] theorem setIrqEnable_imask (b : Bool) : (setIrqEnable b s).imask = s.imask := rfl
@[simp] theorem setIrqEnable_pinFunc (b : Bool) : (setIrqEnable b s).pinFunc = s.pinFunc := rfl
@[simp] theorem setIrqEnable_ind (b : Bool) : (setIrqEnable b s).ind = s.ind := rfl
@[simp] theorem setIrqEnable_log (b : Bool) : (setIrqEnable b s).log = s.log := rfl
@[simp] theorem setIrqEnable_tape (b : Bool) : (setIrqEnable b s).tape = s.tape := rfl
@[simp] theorem setIrqEnable_draws (b : Bool) : (setIrqEnable b s).draws = s.draws := rfl
@[simp] theorem setIrqEnable_opcodes (b : Bool) : (setIrqEnable b s).opcodes = s.opcodes := rfl

/-! #### `setCounterEnable` -/

@[simp] theorem setCounterEnable_seq (b : Bool) : (setCounterEnable b s).seq = s.seq := rfl
@[simp] theorem setCounterEnable_handler (b : Bool) : (setCounterEnable b s).handler = s.handler := rfl
@[simp] theorem setCounterEnable_cmd (b : Bool) : (setCounterEnable b s).cmd = s.cmd := rfl
@[simp] theorem setCounterEnable_deviceInfo (b : Bool) : (setCounterEnable b s).deviceInfo = s.deviceInfo := rfl
@[simp] theorem setCounterEnable_transferResult (b : Bool) :
    (setCounterEnable b s).transferResult =
      s.transferResult := rfl
@[simp] theorem setCounterEnable_isrResult (b : Bool) : (setCounterEnable b s).isrResult = s.isrResult := rfl
@[simp] theorem setCounterEnable_frame (b : Bool) : (setCounterEnable b s).frame = s.frame := rfl
@[simp] theorem setCounterEnable_reply (b : Bool) : (setCounterEnable b s).reply = s.reply := rfl
@[simp] theorem setCounterEnable_cap (b : Bool) : (setCounterEnable b s).cap = s.cap := rfl
@[simp] theorem setCounterEnable_per (b : Bool) : (setCounterEnable b s).per = s.per := rfl
@[simp] theorem setCounterEnable_countdown (b : Bool) : (setCounterEnable b s).countdown = s.countdown := rfl
@[simp] theorem setCounterEnable_cs (b : Bool) : (setCounterEnable b s).cs = s.cs := rfl
@[simp] theorem setCounterEnable_txf (b : Bool) : (setCounterEnable b s).txf = s.txf := rfl
@[simp] theorem setCounterEnable_rxf (b : Bool) : (setCounterEnable b s).rxf = s.rxf := rfl
@[simp] theorem setCounterEnable_link (b : Bool) : (setCounterEnable b s).link = s.link := rfl
@[simp] theorem setCounterEnable_timer (b : Bool) : (setCounterEnable b s).timer = { s.timer with en := b } := rfl
@[simp] theorem setCounterEnable_edge (b : Bool) : (setCounterEnable b s).edge = s.edge := rfl
@[simp] theorem setCounterEnable_imask (b : Bool) : (setCounterEnable b s).imask = s.imask := rfl
@[simp] theorem setCounterEnable_pinFunc (b : Bool) : (setCounterEnable b s).pinFunc = s.pinFunc := rfl
@[simp] theorem setCounterEnable_ind (b : Bool) : (setCounterEnable b s).ind = s.ind := rfl
@[simp] theorem setCounterEnable_log (b : Bool) : (setCounterEnable b s).log = s.log := rfl
@[simp] theorem setCounterEnable_tape (b : Bool) : (setCounterEnable b s).tape = s.tape := rfl
@[simp] theorem setCounterEnable_draws (b : Bool) : (setCounterEnable b s).draws = s.draws := rfl
@[simp] theorem setCounterEnable_opcodes (b : Bool) : (setCounterEnable b s).opcodes = s.opcodes := rfl

/-! #### `setEdgeEnable` -/

@[simp] theorem setEdgeEnable_seq (b : Bool) : (setEdgeEnable b s).seq = s.seq := rfl
@[simp] theorem setEdgeEnable_handler (b : Bool) : (setEdgeEnable b s).handler = s.handler := rfl
@[simp] theorem setEdgeEnable_cmd (b : Bool) : (setEdgeEnable b s).cmd = s.cmd := rfl
@[simp] theorem setEdgeEnable_deviceInfo (b : Bool) : (setEdgeEnable b s).deviceInfo = s.deviceInfo := rfl
@[simp] theorem setEdgeEnable_transferResult (b : Bool) : (setEdgeEnable b s).transferResult = s.transferResult := rfl
@[simp] theorem setEdgeEnable_isrResult (b : Bool) : (setEdgeEnable b s).isrResult = s.isrResult := rfl
@[simp] theorem setEdgeEnable_frame (b : Bool) : (setEdgeEnable b s).frame = s.frame := rfl
@[simp] theorem setEdgeEnable_reply (b : Bool) : (setEdgeEnable b s).reply = s.reply := rfl
@[simp] theorem setEdgeEnable_cap (b : Bool) : (setEdgeEnable b s).cap = s.cap := rfl
@[simp] theorem setEdgeEnable_per (b : Bool) : (setEdgeEnable b s).per = s.per := rfl
@[simp] theorem setEdgeEnable_countdown (b : Bool) : (setEdgeEnable b s).countdown = s.countdown := rfl
@[simp] theorem setEdgeEnable_cs (b : Bool) : (setEdgeEnable b s).cs = s.cs := rfl
@[simp] theorem setEdgeEnable_txf (b : Bool) : (setEdgeEnable b s).txf = s.txf := rfl
@[simp] theorem setEdgeEnable_rxf (b : Bool) : (setEdgeEnable b s).rxf = s.rxf := rfl
@[simp] theorem setEdgeEnable_link (b : Bool) : (setEdgeEnable b s).link = s.link := rfl
@[simp] theorem setEdgeEnable_timer (b : Bool) : (setEdgeEnable b s).timer = s.timer := rfl
@[simp] theorem setEdgeEnable_edge (b : Bool) : (setEdgeEnable b s).edge = { s.edge with en := b } := rfl
@[simp] theorem setEdgeEnable_imask (b : Bool) : (setEdgeEnable b s).imask = s.imask := rfl
@[simp] theorem setEdgeEnable_pinFunc (b : Bool) : (setEdgeEnable b s).pinFunc = s.pinFunc := rfl
@[simp] theorem setEdgeEnable_ind (b : Bool) : (setEdgeEnable b s).ind = s.ind := rfl
@[simp] theorem setEdgeEnable_log (b : Bool) : (setEdgeEnable b s).log = s.log := rfl
@[simp] theorem setEdgeEnable_tape (b : Bool) : (setEdgeEnable b s).tape = s.tape := rfl
@[simp] theorem setEdgeEnable_draws (b : Bool) : (setEdgeEnable b s).draws = s.draws := rfl
@[simp] theorem setEdgeEnable_opcodes (b : Bool) : (setEdgeEnable b s).opcodes = s.opcodes := rfl

/-! #### `edgeClear` -/

@[simp] theorem edgeClear_seq : (edgeClear s).seq = s.seq := rfl
@[simp] theorem edgeClear_handler : (edgeClear s).handler = s.handler := rfl
@[simp] theorem edgeClear_cmd : (edgeClear s).cmd = s.cmd := rfl
@[simp] theorem edgeClear_deviceInfo : (edgeClear s).deviceInfo = s.deviceInfo := rfl
@[simp] theorem edgeClear_transferResult : (edgeClear s).transferResult = s.transferResult := rfl
@[simp] theorem edgeClear_isrResult : (edgeClear s).isrResult = s.isrResult := rfl
@[simp] theorem edgeClear_frame : (edgeClear s).frame = s.frame := rfl
@[simp] theorem edgeClear_reply : (edgeClear s).reply = s.reply := rfl
@[simp] theorem edgeClear_cap : (edgeClear s).cap = s.cap := rfl
@[simp] theorem edgeClear_per : (edgeClear s).per = s.per := rfl
@[simp] theorem edgeClear_countdown : (edgeClear s).countdown = s.countdown := rfl
@[simp] theorem edgeClear_cs : (edgeClear s).cs = s.cs := rfl
@[simp] theorem edgeClear_txf : (edgeClear s).txf = s.txf := rfl
@[simp] theorem edgeClear_rxf : (edgeClear s).rxf = s.rxf := rfl
@[simp] theorem edgeClear_link : (edgeClear s).link = s.link := rfl
@[simp] theorem edgeClear_timer : (edgeClear s).timer = s.timer := rfl
@[simp] theorem edgeClear_edge : (edgeClear s).edge = { s.edge with status := false } := rfl
@[simp] theorem edgeClear_imask : (edgeClear s).imask = s.imask := rfl
@[simp] theorem edgeClear_pinFunc : (edgeClear s).pinFunc = s.pinFunc := rfl
@[simp] theorem edgeClear_ind : (edgeClear s).ind = s.ind := rfl
@[simp] theorem edgeClear_log : (edgeClear s).log = s.log := rfl
@[simp] theorem edgeClear_tape : (edgeClear s).tape = s.tape := rfl
@[simp] theorem edgeClear_draws : (edgeClear s).draws = s.draws := rfl
@[simp] theorem edgeClear_opcodes : (edgeClear s).opcodes = s.opcodes := rfl

/-! #### `edgeOutDeassert` -/

@[simp] theorem edgeOutDeassert_seq : (edgeOutDeassert s).seq = s.seq := rfl
@[simp] theorem edgeOutDeassert_handler : (edgeOutDeassert s).handler = s.handler := rfl
@[simp] theorem edgeOutDeassert_cmd : (edgeOutDeassert s).cmd = s.cmd := rfl
@[simp] theorem edgeOutDeassert_deviceInfo : (edgeOutDeassert s).deviceInfo = s.deviceInfo := rfl
@[simp] theorem edgeOutDeassert_transferResult : (edgeOutDeassert s).transferResult = s.transferResult := rfl
@[simp] theorem edgeOutDeassert_isrResult : (edgeOutDeassert s).isrResult = s.isrResult := rfl
@[simp] theorem edgeOutDeassert_frame : (edgeOutDeassert s).frame = s.frame := rfl
@[simp] theorem edgeOutDeassert_reply : (edgeOutDeassert s).reply = s.reply := rfl
@[simp] theorem edgeOutDeassert_cap : (edgeOutDeassert s).cap = s.cap := rfl
@[simp] theorem edgeOutDeassert_per : (edgeOutDeassert s).per = s.per := rfl
@[simp] theorem edgeOutDeassert_countdown : (edgeOutDeassert s).countdown = s.countdown := rfl
@[simp] theorem edgeOutDeassert_cs : (edgeOutDeassert s).cs = s.cs := rfl
@[simp] theorem edgeOutDeassert_txf : (edgeOutDeassert s).txf = s.txf := rfl
@[simp] theorem edgeOutDeassert_rxf : (edgeOutDeassert s).rxf = s.rxf := rfl
@[simp] theorem edgeOutDeassert_link : (edgeOutDeassert s).link = s.link := rfl
@[simp] theorem edgeOutDeassert_timer : (edgeOutDeassert s).timer = { s.timer with emo := true } := rfl
@[simp] theorem edgeOutDeassert_edge : (edgeOutDeassert s).edge = s.edge := rfl
@[simp] theorem edgeOutDeassert_imask : (edgeOutDeassert s).imask = s.imask := rfl
@[simp] theorem edgeOutDeassert_pinFunc : (edgeOutDeassert s).pinFunc = s.pinFunc := rfl
@[simp] theorem edgeOutDeassert_ind : (edgeOutDeassert s).ind = s.ind := rfl
@[simp] theorem edgeOutDeassert_log : (edgeOutDeassert s).log = s.log := rfl
@[simp] theorem edgeOutDeassert_tape : (edgeOutDeassert s).tape = s.tape := rfl
@[simp] theorem edgeOutDeassert_draws : (edgeOutDeassert s).draws = s.draws := rfl
@[simp] theorem edgeOutDeassert_opcodes : (edgeOutDeassert s).opcodes = s.opcodes := rfl

/-! #### `pinSelect` -/

@[simp] theorem pinSelect_seq (f : PinFunc) : (pinSelect f s).seq = s.seq := rfl
@[simp] theorem pinSelect_handler (f : PinFunc) : (pinSelect f s).handler = s.handler := rfl
@[simp] theorem pinSelect_cmd (f : PinFunc) : (pinSelect f s).cmd = s.cmd := rfl
@[simp] theorem pinSelect_deviceInfo (f : PinFunc) : (pinSelect f s).deviceInfo = s.deviceInfo := rfl
@[simp] theorem pinSelect_transferResult (f : PinFunc) : (pinSelect f s).transferResult = s.transferResult := rfl
@[simp] theorem pinSelect_isrResult (f : PinFunc) : (pinSelect f s).isrResult = s.isrResult := rfl
@[simp] theorem pinSelect_frame (f : PinFunc) : (pinSelect f s).frame = s.frame := rfl
@[simp] theorem pinSelect_reply (f : PinFunc) : (pinSelect f s).reply = s.reply := rfl
@[simp] theorem pinSelect_cap (f : PinFunc) : (pinSelect f s).cap = s.cap := rfl
@[simp] theorem pinSelect_per (f : PinFunc) : (pinSelect f s).per = s.per := rfl
@[simp] theorem pinSelect_countdown (f : PinFunc) : (pinSelect f s).countdown = s.countdown := rfl
@[simp] theorem pinSelect_cs (f : PinFunc) : (pinSelect f s).cs = s.cs := rfl
@[simp] theorem pinSelect_txf (f : PinFunc) : (pinSelect f s).txf = s.txf := rfl
@[simp] theorem pinSelect_rxf (f : PinFunc) : (pinSelect f s).rxf = s.rxf := rfl
@[simp] theorem pinSelect_link (f : PinFunc) : (pinSelect f s).link = s.link := rfl
@[simp] theorem pinSelect_timer (f : PinFunc) : (pinSelect f s).timer = s.timer := rfl
@[simp] theorem pinSelect_edge (f : PinFunc) : (pinSelect f s).edge = s.edge := rfl
@[simp] theorem pinSelect_imask (f : PinFunc) : (pinSelect f s).imask = s.imask := rfl
@[simp] theorem pinSelect_pinFunc (f : PinFunc) : (pinSelect f s).pinFunc = f := rfl
@[simp] theorem pinSelect_ind (f : PinFunc) : (pinSelect f s).ind = s.ind := rfl
@[simp] theorem pinSelect_log (f : PinFunc) : (pinSelect f s).log = s.log := rfl
@[simp] theorem pinSelect_tape (f : PinFunc) : (pinSelect f s).tape = s.tape := rfl
@[simp] theorem pinSelect_draws (f : PinFunc) : (pinSelect f s).draws = s.draws := rfl
@[simp] theorem pinSelect_opcodes (f : PinFunc) : (pinSelect f s).opcodes = s.opcodes := rfl

/-! #### `setIntMask` -/

@[simp] theorem setIntMask_seq (b : Bool) : (setIntMask b s).seq = s.seq := rfl
@[simp] theorem setIntMask_handler (b : Bool) : (setIntMask b s).handler = s.handler := rfl
@[simp] theorem setIntMask_cmd (b : Bool) : (setIntMask b s).cmd = s.cmd := rfl
@[simp] theorem setIntMask_deviceInfo (b : Bool) : (setIntMask b s).deviceInfo = s.deviceInfo := rfl
@[simp] theorem setIntMask_transferResult (b : Bool) : (setIntMask b s).transferResult = s.transferResult := rfl
@[simp] theorem setIntMask_isrResult (b : Bool) : (setIntMask b s).isrResult = s.isrResult := rfl
@[simp] theorem setIntMask_frame (b : Bool) : (setIntMask b s).frame = s.frame := rfl
@[simp] theorem setIntMask_reply (b : Bool) : (setIntMask b s).reply = s.reply := rfl
@[simp] theorem setIntMask_cap (b : Bool) : (setIntMask b s).cap = s.cap := rfl
@[simp] theorem setIntMask_per (b : Bool) : (setIntMask b s).per = s.per := rfl
@[simp] theorem setIntMask_countdown (b : Bool) : (setIntMask b s).countdown = s.countdown := rfl
@[simp] theorem setIntMask_cs (b : Bool) : (setIntMask b s).cs = s.cs := rfl
@[simp] theorem setIntMask_txf (b : Bool) : (setIntMask b s).txf = s.txf := rfl
@[simp] theorem setIntMask_rxf (b : Bool) : (setIntMask b s).rxf = s.rxf := rfl
@[simp] theorem setIntMask_link (b : Bool) : (setIntMask b s).link = s.link := rfl
@[simp] theorem setIntMask_timer (b : Bool) : (setIntMask b s).timer = s.timer := rfl
@[simp] theorem setIntMask_edge (b : Bool) : (setIntMask b s).edge = s.edge := rfl
@[simp] theorem setIntMask_imask (b : Bool) : (setIntMask b s).imask = b := rfl
@[simp] theorem setIntMask_pinFunc (b : Bool) : (setIntMask b s).pinFunc = s.pinFunc := rfl
@[simp] theorem setIntMask_ind (b : Bool) : (setIntMask b s).ind = s.ind := rfl
@[simp] theorem setIntMask_log (b : Bool) : (setIntMask b s).log = s.log := rfl
@[simp] theorem setIntMask_tape (b : Bool) : (setIntMask b s).tape = s.tape := rfl
@[simp] theorem setIntMask_draws (b : Bool) : (setIntMask b s).draws = s.draws := rfl
@[simp] theorem setIntMask_opcodes (b : Bool) : (setIntMask b s).opcodes = s.opcodes := rfl

/-! #### `setIndicator` -/

@[simp] theorem setIndicator_seq (b : Bool) : (setIndicator b s).seq = s.seq := rfl
@[simp] theorem setIndicator_handler (b : Bool) : (setIndicator b s).handler = s.handler := rfl
@[simp] theorem setIndicator_cmd (b : Bool) : (setIndicator b s).cmd = s.cmd := rfl
@[simp] theorem setIndicator_deviceInfo (b : Bool) : (setIndicator b s).deviceInfo = s.deviceInfo := rfl
@[simp] theorem setIndicator_transferResult (b : Bool) : (setIndicator b s).transferResult = s.transferResult := rfl
@[simp] theorem setIndicator_isrResult (b : Bool) : (setIndicator b s).isrResult = s.isrResult := rfl
@[simp] theorem setIndicator_frame (b : Bool) : (setIndicator b s).frame = s.frame := rfl
@[simp] theorem setIndicator_reply (b : Bool) : (setIndicator b s).reply = s.reply := rfl
@[simp] theorem setIndicator_cap (b : Bool) : (setIndicator b s).cap = s.cap := rfl
@[simp] theorem setIndicator_per (b : Bool) : (setIndicator b s).per = s.per := rfl
@[simp] theorem setIndicator_countdown (b : Bool) : (setIndicator b s).countdown = s.countdown := rfl
@[simp] theorem setIndicator_cs (b : Bool) : (setIndicator b s).cs = s.cs := rfl
@[simp] theorem setIndicator_txf (b : Bool) : (setIndicator b s).txf = s.txf := rfl
@[simp] theorem setIndicator_rxf (b : Bool) : (setIndicator b s).rxf = s.rxf := rfl
@[simp] theorem setIndicator_link (b : Bool) : (setIndicator b s).link = s.link := rfl
@[simp] theorem setIndicator_timer (b : Bool) : (setIndicator b s).timer = s.timer := rfl
@[simp] theorem setIndicator_edge (b : Bool) : (setIndicator b s).edge = s.edge := rfl
@[simp] theorem setIndicator_imask (b : Bool) : (setIndicator b s).imask = s.imask := rfl
@[simp] theorem setIndicator_pinFunc (b : Bool) : (setIndicator b s).pinFunc = s.pinFunc := rfl
@[simp] theorem setIndicator_ind (b : Bool) : (setIndicator b s).ind = b := rfl
@[simp] theorem setIndicator_log (b : Bool) : (setIndicator b s).log = s.log := rfl
@[simp] theorem setIndicator_tape (b : Bool) : (setIndicator b s).tape = s.tape := rfl
@[simp] theorem setIndicator_draws (b : Bool) : (setIndicator b s).draws = s.draws := rfl
@[simp] theorem setIndicator_opcodes (b : Bool) : (setIndicator b s).opcodes = s.opcodes := rfl

/-! #### `logEvent` -/

@[simp] theorem logEvent_seq (e : LogEvent) : (logEvent e s).seq = s.seq := rfl
@[simp] theorem logEvent_handler (e : LogEvent) : (logEvent e s).handler = s.handler := rfl
@[simp] theorem logEvent_cmd (e : LogEvent) : (logEvent e s).cmd = s.cmd := rfl
@[simp] theorem logEvent_deviceInfo (e : LogEvent) : (logEvent e s).deviceInfo = s.deviceInfo := rfl
@[simp] theorem logEvent_transferResult (e : LogEvent) : (logEvent e s).transferResult = s.transferResult := rfl
@[simp] theorem logEvent_isrResult (e : LogEvent) : (logEvent e s).isrResult = s.isrResult := rfl
@[simp] theorem logEvent_frame (e : LogEvent) : (logEvent e s).frame = s.frame := rfl
@[simp] theorem logEvent_reply (e : LogEvent) : (logEvent e s).reply = s.reply := rfl
@[simp] theorem logEvent_cap (e : LogEvent) : (logEvent e s).cap = s.cap := rfl
@[simp] theorem logEvent_per (e : LogEvent) : (logEvent e s).per = s.per := rfl
@[simp] theorem logEvent_countdown (e : LogEvent) : (logEvent e s).countdown = s.countdown := rfl
@[simp] theorem logEvent_cs (e : LogEvent) : (logEvent e s).cs = s.cs := rfl
@[simp] theorem logEvent_txf (e : LogEvent) : (logEvent e s).txf = s.txf := rfl
@[simp] theorem logEvent_rxf (e : LogEvent) : (logEvent e s).rxf = s.rxf := rfl
@[simp] theorem logEvent_link (e : LogEvent) : (logEvent e s).link = s.link := rfl
@[simp] theorem logEvent_timer (e : LogEvent) : (logEvent e s).timer = s.timer := rfl
@[simp] theorem logEvent_edge (e : LogEvent) : (logEvent e s).edge = s.edge := rfl
@[simp] theorem logEvent_imask (e : LogEvent) : (logEvent e s).imask = s.imask := rfl
@[simp] theorem logEvent_pinFunc (e : LogEvent) : (logEvent e s).pinFunc = s.pinFunc := rfl
@[simp] theorem logEvent_ind (e : LogEvent) : (logEvent e s).ind = s.ind := rfl
@[simp] theorem logEvent_log (e : LogEvent) : (logEvent e s).log = s.log ++ [e] := rfl
@[simp] theorem logEvent_tape (e : LogEvent) : (logEvent e s).tape = s.tape := rfl
@[simp] theorem logEvent_draws (e : LogEvent) : (logEvent e s).draws = s.draws := rfl
@[simp] theorem logEvent_opcodes (e : LogEvent) : (logEvent e s).opcodes = s.opcodes := rfl

/-! #### `fifoClear` -/

@[simp] theorem fifoClear_seq : (fifoClear s).seq = s.seq := rfl
@[simp] theorem fifoClear_handler : (fifoClear s).handler = s.handler := rfl
@[simp] theorem fifoClear_cmd : (fifoClear s).cmd = s.cmd := rfl
@[simp] theorem fifoClear_deviceInfo : (fifoClear s).deviceInfo = s.deviceInfo := rfl
@[simp] theorem fifoClear_transferResult : (fifoClear s).transferResult = s.transferResult := rfl
@[simp] theorem fifoClear_isrResult : (fifoClear s).isrResult = s.isrResult := rfl
@[simp] theorem fifoClear_frame : (fifoClear s).frame = s.frame := rfl
@[simp] theorem fifoClear_reply : (fifoClear s).reply = s.reply := rfl
@[simp] theorem fifoClear_cap : (fifoClear s).cap = s.cap := rfl
@[simp] theorem fifoClear_per : (fifoClear s).per = s.per := rfl
@[simp] theorem fifoClear_countdown : (fifoClear s).countdown = s.countdown := rfl
@[simp] theorem fifoClear_cs : (fifoClear s).cs = s.cs := rfl
@[simp] theorem fifoClear_txf : (fifoClear s).txf = [] := rfl
@[simp] theorem fifoClear_rxf : (fifoClear s).rxf = [] := rfl
@[simp] theorem fifoClear_link : (fifoClear s).link = s.link := rfl
@[simp] theorem fifoClear_timer : (fifoClear s).timer = s.timer := rfl
@[simp] theorem fifoClear_edge : (fifoClear s).edge = s.edge := rfl
@[simp] theorem fifoClear_imask : (fifoClear s).imask = s.imask := rfl
@[simp] theorem fifoClear_pinFunc : (fifoClear s).pinFunc = s.pinFunc := rfl
@[simp] theorem fifoClear_ind : (fifoClear s).ind = s.ind := rfl
@[simp] theorem fifoClear_log : (fifoClear s).log = s.log := rfl
@[simp] theorem fifoClear_tape : (fifoClear s).tape = s.tape := rfl
@[simp] theorem fifoClear_draws : (fifoClear s).draws = s.draws := rfl
@[simp] theorem fifoClear_opcodes : (fifoClear s).opcodes = s.opcodes := rfl

/-! #### `raiseAnomaly` -/

@[simp] theorem raiseAnomaly_seq (x : Anomaly) : (raiseAnomaly x s).seq = s.seq := rfl
@[simp] theorem raiseAnomaly_handler (x : Anomaly) : (raiseAnomaly x s).handler = s.handler := rfl
@[simp] theorem raiseAnomaly_cmd (x : Anomaly) : (raiseAnomaly x s).cmd = s.cmd := rfl
@[simp] theorem raiseAnomaly_deviceInfo (x : Anomaly) : (raiseAnomaly x s).deviceInfo = s.deviceInfo := rfl
@[simp] theorem raiseAnomaly_transferResult (x : Anomaly) : (raiseAnomaly x s).transferResult = s.transferResult := rfl
@[simp] theorem raiseAnomaly_isrResult (x : Anomaly) :
    (raiseAnomaly x s).isrResult =
      { s.isrResult with status := s.isrResult.status ||| x.bit } := rfl
@[simp] theorem raiseAnomaly_frame (x : Anomaly) : (raiseAnomaly x s).frame = s.frame := rfl
@[simp] theorem raiseAnomaly_reply (x : Anomaly) : (raiseAnomaly x s).reply = s.reply := rfl
@[simp] theorem raiseAnomaly_cap (x : Anomaly) : (raiseAnomaly x s).cap = s.cap := rfl
@[simp] theorem raiseAnomaly_per (x : Anomaly) : (raiseAnomaly x s).per = s.per := rfl
@[simp] theorem raiseAnomaly_countdown (x : Anomaly) : (raiseAnomaly x s).countdown = s.countdown := rfl
@[simp] theorem raiseAnomaly_cs (x : Anomaly) : (raiseAnomaly x s).cs = s.cs := rfl
@[simp] theorem raiseAnomaly_txf (x : Anomaly) : (raiseAnomaly x s).txf = s.txf := rfl
@[simp] theorem raiseAnomaly_rxf (x : Anomaly) : (raiseAnomaly x s).rxf = s.rxf := rfl
@[simp] theorem raiseAnomaly_link (x : Anomaly) : (raiseAnomaly x s).link = s.link := rfl
@[simp] theorem raiseAnomaly_timer (x : Anomaly) : (raiseAnomaly x s).timer = s.timer := rfl
@[simp] theorem raiseAnomaly_edge (x : Anomaly) : (raiseAnomaly x s).edge = s.edge := rfl
@[simp] theorem raiseAnomaly_imask (x : Anomaly) : (raiseAnomaly x s).imask = s.imask := rfl
@[simp] theorem raiseAnomaly_pinFunc (x : Anomaly) : (raiseAnomaly x s).pinFunc = s.pinFunc := rfl
@[simp] theorem raiseAnomaly_ind (x : Anomaly) : (raiseAnomaly x s).ind = s.ind := rfl
@[simp] theorem raiseAnomaly_log (x : Anomaly) : (raiseAnomaly x s).log = s.log := rfl
@[simp] theorem raiseAnomaly_tape (x : Anomaly) : (raiseAnomaly x s).tape = s.tape := rfl
@[simp] theorem raiseAnomaly_draws (x : Anomaly) : (raiseAnomaly x s).draws = s.draws := rfl
@[simp] theorem raiseAnomaly_opcodes (x : Anomaly) : (raiseAnomaly x s).opcodes = s.opcodes := rfl

/-! #### `enterHandler` -/

@[simp] theorem enterHandler_seq : (enterHandler s).seq = s.seq := rfl
@[simp] theorem enterHandler_handler : (enterHandler s).handler = .decrement := rfl
@[simp] theorem enterHandler_cmd : (enterHandler s).cmd = s.cmd := rfl
@[simp] theorem enterHandler_deviceInfo : (enterHandler s).deviceInfo = s.deviceInfo := rfl
@[simp] theorem enterHandler_transferResult : (enterHandler s).transferResult = s.transferResult := rfl
@[simp] theorem enterHandler_isrResult : (enterHandler s).isrResult = s.isrResult := rfl
@[simp] theorem enterHandler_frame : (enterHandler s).frame = s.frame := rfl
@[simp] theorem enterHandler_reply : (enterHandler s).reply = s.reply := rfl
@[simp] theorem enterHandler_cap : (enterHandler s).cap = s.cap := rfl
@[simp] theorem enterHandler_per : (enterHandler s).per = s.per := rfl
@[simp] theorem enterHandler_countdown : (enterHandler s).countdown = s.countdown := rfl
@[simp] theorem enterHandler_cs : (enterHandler s).cs = s.cs := rfl
@[simp] theorem enterHandler_txf : (enterHandler s).txf = s.txf := rfl
@[simp] theorem enterHandler_rxf : (enterHandler s).rxf = s.rxf := rfl
@[simp] theorem enterHandler_link : (enterHandler s).link = s.link := rfl
@[simp] theorem enterHandler_timer : (enterHandler s).timer = { s.timer with irqPend := false } := rfl
@[simp] theorem enterHandler_edge : (enterHandler s).edge = s.edge := rfl
@[simp] theorem enterHandler_imask : (enterHandler s).imask = s.imask := rfl
@[simp] theorem enterHandler_pinFunc : (enterHandler s).pinFunc = s.pinFunc := rfl
@[simp] theorem enterHandler_ind : (enterHandler s).ind = s.ind := rfl
@[simp] theorem enterHandler_log : (enterHandler s).log = s.log := rfl
@[simp] theorem enterHandler_tape : (enterHandler s).tape = s.tape := rfl
@[simp] theorem enterHandler_draws : (enterHandler s).draws = s.draws := rfl
@[simp] theorem enterHandler_opcodes : (enterHandler s).opcodes = s.opcodes := rfl

/-! #### `returnFromHandler` -/

@[simp] theorem returnFromHandler_seq : (returnFromHandler s).seq = s.seq := rfl
@[simp] theorem returnFromHandler_handler : (returnFromHandler s).handler = .notRunning := rfl
@[simp] theorem returnFromHandler_cmd : (returnFromHandler s).cmd = s.cmd := rfl
@[simp] theorem returnFromHandler_deviceInfo : (returnFromHandler s).deviceInfo = s.deviceInfo := rfl
@[simp] theorem returnFromHandler_transferResult : (returnFromHandler s).transferResult = s.transferResult := rfl
@[simp] theorem returnFromHandler_isrResult : (returnFromHandler s).isrResult = s.isrResult := rfl
@[simp] theorem returnFromHandler_frame : (returnFromHandler s).frame = s.frame := rfl
@[simp] theorem returnFromHandler_reply : (returnFromHandler s).reply = s.reply := rfl
@[simp] theorem returnFromHandler_cap : (returnFromHandler s).cap = s.cap := rfl
@[simp] theorem returnFromHandler_per : (returnFromHandler s).per = s.per := rfl
@[simp] theorem returnFromHandler_countdown : (returnFromHandler s).countdown = s.countdown := rfl
@[simp] theorem returnFromHandler_cs : (returnFromHandler s).cs = s.cs := rfl
@[simp] theorem returnFromHandler_txf : (returnFromHandler s).txf = s.txf := rfl
@[simp] theorem returnFromHandler_rxf : (returnFromHandler s).rxf = s.rxf := rfl
@[simp] theorem returnFromHandler_link : (returnFromHandler s).link = s.link := rfl
@[simp] theorem returnFromHandler_timer : (returnFromHandler s).timer = s.timer := rfl
@[simp] theorem returnFromHandler_edge : (returnFromHandler s).edge = s.edge := rfl
@[simp] theorem returnFromHandler_imask : (returnFromHandler s).imask = s.imask := rfl
@[simp] theorem returnFromHandler_pinFunc : (returnFromHandler s).pinFunc = s.pinFunc := rfl
@[simp] theorem returnFromHandler_ind : (returnFromHandler s).ind = s.ind := rfl
@[simp] theorem returnFromHandler_log : (returnFromHandler s).log = s.log := rfl
@[simp] theorem returnFromHandler_tape : (returnFromHandler s).tape = s.tape := rfl
@[simp] theorem returnFromHandler_draws : (returnFromHandler s).draws = s.draws := rfl
@[simp] theorem returnFromHandler_opcodes : (returnFromHandler s).opcodes = s.opcodes := rfl

end Sys2Proof.Machine
end

