-- ==== Sys2Proof/Laws/Ops.lean ====
section
/-! SUPPORT. What each shared operation can do, said once: when it answers a next state, which one; and the arithmetic of
word masks and effective lengths. -/

namespace Sys2Proof.Machine

variable {s t : State} {w : Word}

/-! ### Word masks -/

theorem and_mask_toNat (w : Word) (bits : BitVec 5) : (w &&& mask bits).toNat = w.toNat % 2 ^ bits.toNat := by
  have hb : bits.toNat < 32 := bits.isLt
  rw [BitVec.toNat_and, mask, BitVec.toNat_ofNat]
  by_cases h : bits.toNat ≤ 16
  · have h1 : 2 ^ bits.toNat ≤ 2 ^ 16 := Nat.pow_le_pow_right (by decide) h
    have h2 : 0 < 2 ^ bits.toNat := Nat.two_pow_pos _
    rw [Nat.mod_eq_of_lt (by omega), Nat.and_two_pow_sub_one_eq_mod]
  · obtain ⟨k, hk⟩ : ∃ k, bits.toNat = 16 + k := ⟨bits.toNat - 16, by omega⟩
    have h1 : (2 ^ bits.toNat - 1) % 2 ^ 16 = 2 ^ 16 - 1 := by
      have h2 : 0 < 2 ^ k := Nat.two_pow_pos _
      rw [hk, Nat.pow_add]
      obtain ⟨m, hm⟩ : ∃ m, 2 ^ k = m + 1 := ⟨2 ^ k - 1, by omega⟩
      rw [hm]
      omega
    have h3 : 2 ^ 16 ≤ 2 ^ bits.toNat := Nat.pow_le_pow_right (by decide) (by omega)
    have := w.isLt
    rw [h1, Nat.and_two_pow_sub_one_eq_mod, Nat.mod_eq_of_lt this, Nat.mod_eq_of_lt (by omega)]

@[simp] theorem and_mask_idem (w : Word) (bits : BitVec 5) : w &&& mask bits &&& mask bits = w &&& mask bits := by
  rw [BitVec.and_assoc, BitVec.and_self]

/-- A byte on the 8-bit link is not cut. -/
@[simp] theorem byte_and_mask (b : Byte) : b.setWidth 16 &&& mask 8#5 = b.setWidth 16 := by
  apply BitVec.eq_of_toNat_eq
  have := b.isLt
  rw [and_mask_toNat, BitVec.toNat_setWidth]
  simp
  omega

/-! ### The configuration -/

/-- What a well-formed configuration promises, clause by clause. -/
theorem params_wf_iff (p : Params) :
    p.wf = true ↔
      (1 ≤ p.fMeas ∧ p.fMeas < 2 ^ 32) ∧ 1 ≤ p.slaveClockDiv ∧ (p.minBits ≤ 8 ∧ 8 ≤ p.maxBits ∧ p.maxBits ≤ 16) ∧
        p.captureOverflowMatch ≠ 0 ∧ 1 ≤ p.capturePollReads ∧ p.opcodes.wf = true := by
  simp only [Params.wf, Bool.and_eq_true, decide_eq_true_eq, and_assoc]

theorem machine_wf : Config.machine.wf = true := by
  rw [Config.machine]
  split
  · assumption
  · decide

/-- The machine starts with six distinct opcodes (R8). -/
theorem reset_opcodes_wf : State.reset.opcodes.wf = true := ((params_wf_iff _).1 machine_wf).2.2.2.2.2

/-! ### Effective word length -/

theorem effBits_toNat (p : Params) (l : Byte) (h : p.wf = true) :
    (effBits p l).toNat = if p.minBits ≤ l.toNat ∧ l.toNat ≤ p.maxBits then l.toNat else 8 := by
  have hm : p.maxBits ≤ 16 := ((params_wf_iff p).1 h).2.2.1.2.2
  rw [effBits]
  split
  · rw [BitVec.toNat_ofNat]
    omega
  · rfl

theorem effBits_range (p : Params) (l : Byte) (h : p.wf = true) :
    p.minBits ≤ (effBits p l).toNat ∧ (effBits p l).toNat ≤ p.maxBits := by
  rw [effBits_toNat p l h]
  have := ((params_wf_iff p).1 h).2.2.1
  split <;> omega

theorem effBits_eight (p : Params) (h : p.wf = true) : effBits p 8 = 8 := by
  apply BitVec.eq_of_toNat_eq
  rw [effBits_toNat p 8 h]
  split <;> rfl

/-! ### Primitives that may refuse -/

theorem onNext_next_iff {o : Out} {f : State → State} : onNext o f = .next t ↔ ∃ u, o = .next u ∧ t = f u := by
  cases o <;> simp [onNext, eq_comm]

theorem txPush_of_room (h : s.txf.length < 8) :
    txPush w s = .next { s with txf := s.txf ++ [w &&& mask s.link.bits] } := if_pos h

theorem txPush_of_full (h : 8 ≤ s.txf.length) : txPush w s = .refused .txPushFull := if_neg (Nat.not_lt.mpr h)

theorem txPush_next (h : txPush w s = .next t) :
    s.txf.length < 8 ∧ t = { s with txf := s.txf ++ [w &&& mask s.link.bits] } := by
  rw [txPush] at h
  split at h
  · exact ⟨‹_›, by simpa using h.symm⟩
  · cases h

theorem rxPop_of_cons {k : Word → State → State} {v : Word} {vs : List Word} (h : s.rxf = v :: vs) :
    rxPop k s = .next (k v { s with rxf := vs }) := by simp [rxPop, h]

theorem rxPop_of_nil {k : Word → State → State} (h : s.rxf = []) : rxPop k s = .refused .rxPopEmpty := by
  simp [rxPop, h]

theorem rxPop_next {k : Word → State → State} (h : rxPop k s = .next t) :
    ∃ v vs, s.rxf = v :: vs ∧ t = k v { s with rxf := vs } := by
  rw [rxPop] at h
  split at h
  · cases h
  · exact ⟨_, _, ‹_›, by simpa using h.symm⟩

theorem linkConfigure_next {p : Params} {m l : Byte} (h : linkConfigure p m l s = .next t) :
    s.link.inflight = false ∧
      t = { s with
        link := { s.link with mode := configuredMode m s, bits := effBits p l }
        txf := []
        rxf := []
        draws := if m.toNat ≤ 3 then s.draws else s.draws + 1 } := by
  cases hi : s.link.inflight
  · refine ⟨rfl, ?_⟩
    rw [linkConfigure, if_neg (by simp [hi])] at h
    exact (Host.Outcome.next.inj h).symm
  · simp [linkConfigure, hi] at h

/-- The idle configuration: the default mode, 8-bit words, both FIFOs empty. -/
theorem linkConfigureIdle_of_free (p : Params) (hw : p.wf = true) (h : s.link.inflight = false) :
    linkConfigureIdle p s =
      .next { s with link := { s.link with mode := p.defaultMode, bits := 8 }, txf := [], rxf := [] } := by
  have hlt := p.defaultMode.isLt
  have hm : (p.defaultMode.setWidth 8 : Byte).toNat ≤ 3 := by
    rw [BitVec.toNat_setWidth]
    omega
  have hmode : (p.defaultMode.setWidth 8 : Byte).setWidth 2 = p.defaultMode := by
    apply BitVec.eq_of_toNat_eq
    rw [BitVec.toNat_setWidth, BitVec.toNat_setWidth]
    omega
  have he := effBits_eight p hw
  rw [linkConfigureIdle, linkConfigure, if_neg (by simp [h]), configuredMode, if_pos hm, if_pos hm, hmode, he]

theorem linkConfigureIdle_next {p : Params} (hw : p.wf = true) (h : linkConfigureIdle p s = .next t) :
    s.link.inflight = false ∧
      t = { s with link := { s.link with mode := p.defaultMode, bits := 8 }, txf := [], rxf := [] } := by
  have hf := (linkConfigure_next (by simpa [linkConfigureIdle] using h)).1
  rw [linkConfigureIdle_of_free p hw hf] at h
  exact ⟨hf, by simpa using h.symm⟩

/-! ### Send and Stamp -/

theorem memWrite_append_head (a b : List Byte) (f : List Byte) (h : a.length = b.length) :
    memWrite (a ++ f) 0 b = b ++ f := by
  simp [memWrite, ← h]

/-- A buffer of at least 4 bytes is 4 bytes and a rest. -/
theorem four_and_rest (f : List Byte) (h : 4 ≤ f.length) : ∃ a b c d r, f = a :: b :: c :: d :: r := by
  match f, h with
  | a :: b :: c :: d :: r, _ => exact ⟨a, b, c, d, r, rfl⟩

/-- What `Stamp` makes of a buffer of at least 4 bytes. -/
theorem stamp_cons (v : CrcVariant) (a b c d : Byte) (r : List Byte) :
    stamp v (a :: b :: c :: d :: r) =
      le16 (BitVec.ofNat 16 (r.length + 4))
        ++ le16 (compute v (le16 (BitVec.ofNat 16 (r.length + 4)) ++ [0, 0] ++ r)) ++ r := by
  simp [stamp, memWrite, le16]

theorem stamp_length_ge (v : CrcVariant) (f : List Byte) : 4 ≤ (stamp v f).length := by
  simp only [stamp, memWrite, le16, List.length_append, List.length_take, List.length_drop, List.length_cons,
    List.length_nil]
  omega

/-- `beginSend` always answers a next state, in one of two ways. -/
theorem beginSend_eq (p : Params) (f : List Byte) (s : State) :
    beginSend p f s =
      .next (if s.txf = [] then { s with frame := stamp p.crc f, seq := .send (.preload 0) }
        else { s with frame := stamp p.crc f, log := s.log ++ [.sendTxNotEmpty], seq := .idle }) := by
  unfold beginSend txEmpty
  by_cases h : s.txf = [] <;> simp [h, logEvent]

end Sys2Proof.Machine
end

