-- ==== Sys2Proof/Laws/Link.lean ====
section
/-! SUPPORT. What a falling clock edge does to the units that watch it, and that every operation on the FIFOs keeps them in
their form: at most 8 words each, each cut to the link's word length. -/

namespace Sys2Proof.Machine

open Sys2Proof.Safety

/-! ### A falling clock edge (R82) -/

theorem edgeDetect_eq (e : EdgeDetector) : edgeDetect e = { e with status := e.status || e.en } := by
  rcases e with ⟨en, st⟩
  cases en <;> cases st <;> rfl

theorem captureLatch_eq (t : Timer) :
    captureLatch t = { t with cap := if t.capArm = true ∧ t.en = true then t.cnt else t.cap } := by
  rcases t with ⟨_, en, _, _, _, _, _, arm, _, _, _⟩
  cases en <;> cases arm <;> rfl

/-- A second edge with no tick between latches nothing new. -/
theorem captureLatch_idem (t : Timer) : captureLatch (captureLatch t) = captureLatch t := by
  rcases t with ⟨_, en, _, _, _, _, _, arm, _, _, _⟩
  cases en <;> cases arm <;> rfl

theorem edgeDetect_idem (e : EdgeDetector) : edgeDetect (edgeDetect e) = edgeDetect e := by
  rcases e with ⟨en, st⟩
  cases en <;> cases st <;> rfl

/-! ### The form of the FIFOs (R31) -/

theorem fifosWf_iff (s : State) :
    fifosWf s = true ↔ s.txf.length ≤ 8 ∧ s.rxf.length ≤ 8
      ∧ (∀ w ∈ s.txf, w &&& mask s.link.bits = w) ∧ (∀ w ∈ s.rxf, w &&& mask s.link.bits = w) := by
  simp [fifosWf, fitsWidth, and_assoc]

variable {s t : State}

/-- Empty FIFOs are in form at every word length. -/
theorem fifosWf_of_empty (h : s.txf = []) (h' : s.rxf = []) : fifosWf s = true := by
  simp [fifosWf_iff, h, h']

theorem txPush_fifosWf {w : Word} (hw : fifosWf s = true) (h : txPush w s = .next t) : fifosWf t = true := by
  obtain ⟨hl, rfl⟩ := txPush_next h
  obtain ⟨-, h2, h3, h4⟩ := (fifosWf_iff s).mp hw
  refine (fifosWf_iff _).mpr ⟨by simpa using hl, h2, fun v hv => ?_, h4⟩
  rcases List.mem_append.mp hv with hv | hv
  · exact h3 v hv
  · rw [List.mem_singleton.mp hv, and_mask_idem]

/-- What follows a pop keeps the form if it leaves the FIFOs and the word length alone. -/
theorem rxPop_fifosWf {k : Word → State → State} (hk : ∀ w u, fifosWf u = true → fifosWf (k w u) = true)
    (hw : fifosWf s = true) (h : rxPop k s = .next t) : fifosWf t = true := by
  obtain ⟨v, vs, hr, rfl⟩ := rxPop_next h
  obtain ⟨h1, h2, h3, h4⟩ := (fifosWf_iff s).mp hw
  rw [hr] at h2 h4
  exact hk v _ ((fifosWf_iff _).mpr ⟨h1, Nat.le_of_succ_le h2, h3, fun w hm => h4 w (List.mem_cons_of_mem _ hm)⟩)

theorem fifoClear_fifosWf (s : State) : fifosWf (fifoClear s) = true := fifosWf_of_empty rfl rfl

theorem linkConfigure_fifosWf {p : Params} {m l : Byte} (h : linkConfigure p m l s = .next t) :
    fifosWf t = true := by
  obtain ⟨-, rfl⟩ := linkConfigure_next h
  exact fifosWf_of_empty rfl rfl

theorem wordStart_fifosWf (hw : fifosWf s = true) : fifosWf (wordStart s) = true := by
  rw [wordStart]
  split
  · split
    · rename_i v vs ht
      obtain ⟨h1, h2, h3, h4⟩ := (fifosWf_iff s).mp hw
      rw [ht] at h1 h3
      exact (fifosWf_iff _).mpr ⟨Nat.le_of_succ_le h1, h2, fun w hm => h3 w (List.mem_cons_of_mem _ hm), h4⟩
    · exact hw
  · exact hw

theorem wordEnd_fifosWf (c : Word) (hw : fifosWf s = true) : fifosWf (wordEnd c s) = true := by
  obtain ⟨h1, h2, h3, h4⟩ := (fifosWf_iff s).mp hw
  rw [wordEnd]
  split
  · refine (fifosWf_iff _).mpr ⟨h1, ?_, h3, fun w hm => ?_⟩
    · dsimp only
      split
      · rw [List.length_append]
        exact Nat.succ_le_of_lt ‹_›
      · exact h2
    · dsimp only at hm
      split at hm
      · rcases List.mem_append.mp hm with hm | hm
        · exact h4 w hm
        · rw [List.mem_singleton.mp hm, and_mask_idem]
      · exact h4 w hm
  · exact hw

theorem reset_fifosWf : fifosWf State.reset = true := by decide

end Sys2Proof.Machine
end

