-- ==== Sys2Proof/Laws/Operands.lean ====
section
/-! SUPPORT. The pattern words of a capture as numbers, and what the arithmetic of arming and of classifying answers. -/

namespace Sys2Proof.Machine

/-- The pattern word of index `k` is `base + k` modulo 2 to the word length (R203, R212). -/
theorem patternWord_toNat {bits : BitVec 5} (hb : bits.toNat ≤ 16) (base : Word) (k : U32) :
    (patternWord bits base k).toNat = (base.toNat + k.toNat) % 2 ^ bits.toNat := by
  have h16 : 2 ^ bits.toNat ∣ 2 ^ 16 := Nat.pow_dvd_pow _ hb
  have hbase := base.isLt
  rw [patternWord, and_mask_toNat, BitVec.toNat_setWidth, BitVec.toNat_add, BitVec.toNat_setWidth,
    Nat.mod_eq_of_lt (a := base.toNat) (by omega), Nat.mod_mod_of_dvd _ (by decide : (2 : Nat) ^ 16 ∣ 2 ^ 32),
    Nat.mod_mod_of_dvd _ h16]

@[simp] theorem patternWord_and_mask (bits : BitVec 5) (base : Word) (k : U32) :
    patternWord bits base k &&& mask bits = patternWord bits base k := and_mask_idem ..

/-- What arming answers: a refusal, or the two quotients as 32-bit values (R242). -/
theorem arming_refuse {fMeas : Nat} {freq : U32} {dur : Word}
    (h : freq = 0 ∨ fMeas < freq.toNat ∨ 2 ^ 32 ≤ freq.toNat * dur.toNat) : arming fMeas freq dur = .refuse := by
  rw [arming]
  split
  · rfl
  · rename_i hf
    rw [if_pos]
    rcases h with h | h | h
    · exact absurd h hf
    · exact .inl (Nat.div_eq_of_lt h)
    · exact .inr h

theorem arming_accept {fMeas : Nat} {freq : U32} {dur : Word} (hf : freq ≠ 0) (hp : freq.toNat ≤ fMeas)
    (ht : freq.toNat * dur.toNat < 2 ^ 32) :
    arming fMeas freq dur =
      .accept (BitVec.ofNat 32 (fMeas / freq.toNat)) (BitVec.ofNat 32 (freq.toNat * dur.toNat)) := by
  have h0 : 0 < freq.toNat := Nat.pos_of_ne_zero fun h => hf (BitVec.eq_of_toNat_eq h)
  rw [arming, if_neg hf, if_neg]
  rw [not_or]
  exact ⟨Nat.pos_iff_ne_zero.mp (Nat.div_pos hp h0), by omega⟩

/-! ### Classification by the difference as a natural number (R260, R261) -/

variable {lastAck countdown : U32} (period latency : U32)

theorem classifyAck_negative (h : lastAck.toNat < countdown.toNat) :
    classifyAck lastAck countdown period latency = .impossible := by
  rw [classifyAck, if_pos]
  rw [ackDifference]
  omega

theorem classifyAck_zero (h : lastAck = countdown) : classifyAck lastAck countdown period latency = .duplicate := by
  subst h
  simp [classifyAck, ackDifference]

theorem classifyAck_one (h : lastAck.toNat = countdown.toNat + 1) :
    classifyAck lastAck countdown period latency = .onTime latency := by
  have hd : ackDifference lastAck countdown = 1 := by rw [ackDifference]; omega
  rw [classifyAck, hd]
  rfl

theorem classifyAck_late (h : countdown.toNat + 1 < lastAck.toNat) :
    ∃ reply : U32, classifyAck lastAck countdown period latency = .late reply ∧
      reply.toNat = ((lastAck.toNat - countdown.toNat - 1) * period.toNat + latency.toNat) % 2 ^ 32 := by
  have hl := lastAck.isLt
  obtain ⟨n, hn⟩ : ∃ n, lastAck.toNat = countdown.toNat + 1 + (n + 1) := ⟨lastAck.toNat - countdown.toNat - 2, by omega⟩
  have hd : ackDifference lastAck countdown = ((n + 2 : Nat) : Int) := by rw [ackDifference]; omega
  have hs : ((n + 2 : Nat) : Int) - 1 = ((n + 1 : Nat) : Int) := by omega
  refine ⟨lateLatency (ackDifference lastAck countdown) period latency, ?_, ?_⟩
  · rw [classifyAck, if_neg, if_neg, if_neg] <;> rw [hd] <;> omega
  · rw [hd, lateLatency, hs, BitVec.ofInt_natCast, BitVec.toNat_add, BitVec.toNat_mul, BitVec.toNat_ofNat, hn,
      show countdown.toNat + 1 + (n + 1) - countdown.toNat - 1 = n + 1 by omega]
    simp [Nat.add_mod, Nat.mul_mod]

end Sys2Proof.Machine
end

