-- ==== Sys2Proof/Laws/PerInstr.lean ====
section
/-! SUPPORT. What holds of every command as syntax: its CommandFrame has the form of R101. One lemma per constructor. -/

namespace Sys2Proof.Laws.EncodedFrame

open Sys2Proof

/-- The opcode value of a command (R120). -/
def opcodeOf (o : Opcodes) : Instr → Byte
  | .getDeviceInfo => o.getDeviceInfo
  | .captureNextTransfer _ _ _ _ => o.captureNextTransfer
  | .getTransferInfo => o.getTransferInfo
  | .startPeriodicInterrupts _ _ => o.startPeriodicInterrupts
  | .getPeriodicInterruptInfo => o.getPeriodicInterruptInfo
  | .acknowledgeInterrupt => o.acknowledgeInterrupt

/-- A command is well formed, its frame is `CMD_LEN` bytes, the first is its opcode and the last, which no command reads,
is sent as 0 (R101 to R104). -/
def Statement (i : Instr) : Prop :=
  i.wf = true ∧
    ∀ o : Opcodes, commandFrameWf (encodeWith o i) = true ∧ (encodeWith o i).getD 0 0 = opcodeOf o i ∧
      (encodeWith o i).getD 7 0 = 0

theorem getDeviceInfo : Statement .getDeviceInfo := ⟨rfl, fun _ => ⟨rfl, rfl, rfl⟩⟩

theorem captureNextTransfer (l m : Byte) (sv rv : Word) : Statement (.captureNextTransfer l m sv rv) :=
  ⟨rfl, fun _ => ⟨rfl, rfl, rfl⟩⟩

theorem getTransferInfo : Statement .getTransferInfo := ⟨rfl, fun _ => ⟨rfl, rfl, rfl⟩⟩

theorem startPeriodicInterrupts (f : U32) (d : Word) : Statement (.startPeriodicInterrupts f d) :=
  ⟨rfl, fun _ => ⟨rfl, rfl, rfl⟩⟩

theorem getPeriodicInterruptInfo : Statement .getPeriodicInterruptInfo := ⟨rfl, fun _ => ⟨rfl, rfl, rfl⟩⟩

theorem acknowledgeInterrupt : Statement .acknowledgeInterrupt := ⟨rfl, fun _ => ⟨rfl, rfl, rfl⟩⟩

end Sys2Proof.Laws.EncodedFrame
end

