-- ==== Sys2Proof/Laws/Step.lean ====
section
/-! SUPPORT. What a step can do, said once, and how several turns of the main flow follow each other. -/

namespace Sys2Proof.Machine

open Sys2Proof.Safety

variable {s t : State}

theorem step_nil (h : s.tape = []) : step s = turn (restingMove s) s := by
  simp [step, runStep, h]

theorem step_cons {m : Move} {rest : List Move} (h : s.tape = m :: rest) :
    step s = turn m { s with tape := rest } := by
  simp [step, runStep, h]

/-- Every step is one turn of one agent, taken from the tape or, with an empty tape, the resting one. -/
theorem step_cases (h : step s = .next t) :
    (s.tape = [] ∧ turn (restingMove s) s = .next t) ∨
      ∃ m rest, s.tape = m :: rest ∧ turn m { s with tape := rest } = .next t := by
  match hs : s.tape with
  | [] => exact .inl ⟨rfl, by rw [← step_nil hs, h]⟩
  | m :: rest => exact .inr ⟨m, rest, rfl, by rw [← step_cons hs, h]⟩

/-- A predicate that does not look at the tape is kept by every step if every turn keeps it. -/
theorem step_keeps {P : State → Prop} (htape : ∀ s l, P s → P { s with tape := l })
    (hturn : ∀ m s t, P s → turn m s = .next t → P t) (hs : P s) (h : step s = .next t) : P t := by
  rcases step_cases h with ⟨-, h⟩ | ⟨m, rest, -, h⟩
  · exact hturn _ _ _ hs h
  · exact hturn _ _ _ (htape _ _ hs) h

/-- Everything one turn can do, said once: to show a relation `P` between the states before and after every turn, show it
for each position family of the main flow (the handler not running), for each other agent, for the host's two calls, and for a
turn that changes nothing. A step that refuses or that is not the agent's to take needs no case of its own. -/
theorem turn_cases {P : State → State → Prop}
    (init : ∀ pt (s t : State), s.seq = .init pt → s.handler = .notRunning →
      initStep Config.machine pt s = .next t → P s t)
    (recv : ∀ pt (s t : State), s.seq = .recv pt → s.handler = .notRunning → recvStep pt s = .next t → P s t)
    (drain : ∀ r pt (s t : State), s.seq = .drain r pt → s.handler = .notRunning → drainStep r pt s = .next t → P s t)
    (command : ∀ i (s t : State), s.seq = .dispatch → s.handler = .notRunning → exec i s = .next t → P s t)
    (unknown : ∀ s : State, s.seq = .dispatch → s.handler = .notRunning → P s (goTo .idle s))
    (send : ∀ pt (s t : State), s.seq = .send pt → s.handler = .notRunning → sendStep pt s = .next t → P s t)
    (cap : ∀ pt (s t : State), s.seq = .cap pt → s.handler = .notRunning →
      captureStep Config.machine pt s = .next t → P s t)
    (per : ∀ pt (s t : State), s.seq = .per pt → s.handler = .notRunning →
      periodicStep Config.machine pt s = .next t → P s t)
    (nothing : ∀ s : State, P s s)
    (handler : ∀ s : State, P s (handlerStep s)) (tick : ∀ s : State, P s (tickStep s))
    (wordStart : ∀ s : State, P s (wordStart s)) (sckFall : ∀ s : State, P s (sckFall s))
    (wordEnd : ∀ (c : Word) (s : State), P s (wordEnd c s))
    (csAssert : ∀ s : State, P s (csAssert s)) (csDeassert : ∀ s : State, P s (csDeassert s))
    (callInit : ∀ s : State, s.handler = .notRunning → s.seq = .reset → P s (goTo (.init .link) s))
    (callPoll : ∀ s : State, s.handler = .notRunning → s.seq = .idle → P s (goTo (.recv .entry) s)) :
    ∀ m (s t : State), turn m s = .next t → P s t := by
  intro m s t h
  cases m <;> simp only [turn, Host.Outcome.next.injEq] at h <;> try subst h
  case main =>
    rw [mainTurn] at h
    split at h
    case isFalse => cases h; exact nothing _
    rename_i hh
    rw [mainFlow] at h
    split at h
    · cases h; exact nothing _
    · exact init _ _ _ ‹_› hh h
    · cases h; exact nothing _
    · exact recv _ _ _ ‹_› hh h
    · exact drain _ _ _ _ ‹_› hh h
    · rw [dispatchStep] at h
      split at h
      · exact command _ _ _ ‹_› hh h
      · simp only [Host.Outcome.next.injEq] at h
        subst h
        exact unknown _ ‹_› hh
    · exact send _ _ _ ‹_› hh h
    · exact cap _ _ _ ‹_› hh h
    · rename_i pt hq
      rw [periodicTurn] at h
      split at h
      · rename_i hpt
        subst hpt
        apply per _ _ _ ‹_› hh
        rw [← h]
        simp only [exec, execAcknowledgeInterrupt, acknowledgeInterrupt, if_pos hq]
        rfl
      · exact per _ _ _ ‹_› hh h
  case callInit =>
    rw [hostInit] at h
    split at h
    · cases h
    · rename_i hh
      split at h
      · simp only [Host.Outcome.next.injEq] at h
        subst h
        exact callInit _ (by simpa using hh) ‹_›
      · cases h
  case callPoll =>
    rw [hostPoll] at h
    split at h
    · cases h
    · rename_i hh
      split at h
      · simp only [Host.Outcome.next.injEq] at h
        subst h
        exact callPoll _ (by simpa using hh) ‹_›
      all_goals cases h
  all_goals solve_by_elim

/-! ### Turns of the main flow -/

/-- The turns that `MainFor` promises stand at the head of the tape. -/
theorem MainFor_tape_eq {k : Nat} {q : Seq} (h : MainFor k q s) :
    s.tape = List.replicate k .main ++ s.tape.drop k := by
  conv => lhs; rw [← List.take_append_drop k s.tape, h.2.2]

theorem MainFor_tape {k : Nat} {q : Seq} (h : MainFor (k + 1) q s) : s.tape = .main :: s.tape.tail := by
  have h3 := h.2.2
  match hs : s.tape with
  | [] => rw [hs] at h3; simp [List.replicate_succ] at h3
  | m :: rest => rw [hs] at h3; simp [List.replicate_succ] at h3; simp [h3.1]

/-- One step on a turn of the main flow. -/
theorem step_main {k : Nat} {q : Seq} (h : MainFor (k + 1) q s) : step s = mainFlow (spent 1 s) := by
  rw [step_cons (MainFor_tape h)]
  simp only [turn, mainTurn]
  rw [if_pos h.2.1]
  simp [spent]

@[simp] theorem runs_zero : runs 0 s = .next s := rfl

theorem runs_succ (k : Nat) (s : State) :
    runs (k + 1) s =
      match step s with
      | .next u => runs k u
      | .fault r => .fault r
      | .refused r => .refused r := rfl

theorem runs_succ_next {k : Nat} (h : step s = .next t) : runs (k + 1) s = runs k t := by
  rw [runs_succ, h]

theorem runs_one : runs 1 s = step s := by
  rw [runs_succ]
  cases step s <;> rfl

/-- A turn of the main flow that leaves the handler and the tape alone, then the turns that follow it. -/
theorem runs_main {k : Nat} {q : Seq} (h : MainFor (k + 1) q s) (hm : mainFlow (spent 1 s) = .next t) :
    runs (k + 1) s = runs k t := runs_succ_next (by rw [step_main h, hm])

theorem MainFor_next {k : Nat} {q q' : Seq} (h : MainFor (k + 1) q s) (hq : t.seq = q')
    (hh : t.handler = s.handler) (ht : t.tape = s.tape.drop 1) : MainFor k q' t := by
  refine ⟨hq, by rw [hh, h.2.1], ?_⟩
  have h3 := h.2.2
  rw [ht]
  match hs : s.tape with
  | [] => rw [hs] at h3; simp [List.replicate_succ] at h3
  | m :: rest => rw [hs] at h3; simp [List.replicate_succ] at h3; simpa using h3.2

/-- Turns spent one after the other. -/
theorem runs_add {j k : Nat} (h : runs j s = .next t) : runs (j + k) s = runs k t := by
  induction j generalizing s with
  | zero => simp at h; simp [h]
  | succ j ih =>
    rw [Nat.add_right_comm]
    match hs : step s with
    | .next u => rw [runs_succ_next hs] at h ⊢; exact ih h
    | .fault r => exact r.rec
    | .refused r => rw [runs_succ, hs] at h; cases h

end Sys2Proof.Machine
end

