-- ==== Sys2Proof/Tests/Slice0.lean ====
section
/-! SUPPORT. Tests. Expected values are those of spec/95_test_vectors.md (V<n>) or of a rule's own numbers, cited at each
test; the last part shows, for each statement with hypotheses, inputs that meet them. -/

namespace Sys2Proof.Tests

open Sys2Proof Sys2Proof.Machine Sys2Proof.Safety

/-! ### Small states -/

/-- The main flow at `q` with the next `k` turns its own, the link in 8-bit words, everything else as at reset. -/
def at' (q : Machine.Seq) (k : Nat) : State :=
  { State.reset with seq := q, tape := List.replicate k .main, link := { State.reset.link with bits := 8 } }

/-- The turn `m` comes next; everything else as at reset. -/
def turnOf (m : Move) : State := { State.reset with tape := [m] }

/-- A field of the next state, or `d`. -/
def got {α : Type} (d : α) (f : State → α) (o : Out) : α :=
  match o with
  | .next s => f s
  | .fault _ => d
  | .refused _ => d

/-- Did the step end in a next state? -/
def isNext (o : Out) : Bool := got false (fun _ => true) o

/-! ### Well-formedness: an ill-formed term for each check -/

theorem test_wf_command : (Instr.captureNextTransfer 0xFF 0xFF 0xFFFF 0xFFFF).wf = true := by decide

theorem test_wf_sample : Params.sample.wf = true ∧ Opcodes.table.wf = true := by decide

theorem test_wf_params :
    { Params.sample with fMeas := 0 }.wf = false ∧ { Params.sample with fMeas := 2 ^ 32 }.wf = false ∧
    { Params.sample with slaveClockDiv := 0 }.wf = false ∧ { Params.sample with maxClockCap := 2 ^ 40 }.wf = true ∧
    { Params.sample with minBits := 9 }.wf = false ∧ { Params.sample with maxBits := 7 }.wf = false ∧
    { Params.sample with maxBits := 17 }.wf = false ∧ { Params.sample with captureOverflowMatch := 0 }.wf = false ∧
    { Params.sample with capturePollReads := 0 }.wf = false := by decide

theorem test_wf_opcodes :
    { Opcodes.table with acknowledgeInterrupt := 0x02 }.wf = false ∧
    { Params.sample with opcodes := { Opcodes.table with acknowledgeInterrupt := 0x02 } }.wf = false := by decide

theorem test_wf_frames :
    commandFrameWf [1, 2, 3, 4, 5, 6, 7] = false ∧ commandFrameWf (List.replicate 9 0) = false ∧
    commandFrameWf (List.replicate 8 0) = true ∧ responseFrameWf [4, 0, 0] = false ∧
    responseFrameWf (List.replicate 23 0) = false ∧ responseFrameWf (List.replicate 22 0) = true := by decide

/-- "A model must refuse a configuration where the two differ" (R9). -/
theorem test_wf_config :
    configWf Params.sample 8 8 = true ∧ configWf Params.sample 8 16 = false := by decide

/-! ### Decoding: words written out from 30_encoding.md R101 to R104 -/

/-- V80 to V89, and a word that is cut short. -/
theorem test_decode_words :
    decodeTableWord 64 0x0000000000000000 = some .getDeviceInfo ∧
    decodeTableWord 64 0x030201EFBEADDE00 = some .getDeviceInfo ∧
    decodeTableWord 64 0x0000A00010000801 = some (.captureNextTransfer 8 0 0x0010 0x00A0) ∧
    decodeTableWord 64 0xFF123401FE031001 = some (.captureNextTransfer 16 3 0x01FE 0x1234) ∧
    decodeTableWord 64 0x0000000000000002 = some .getTransferInfo ∧
    decodeTableWord 64 0x000002000003E803 = some (.startPeriodicInterrupts 1000 2) ∧
    decodeTableWord 64 0x0000000000000004 = some .getPeriodicInterruptInfo ∧
    decodeTableWord 64 0x0000000000000005 = some .acknowledgeInterrupt ∧
    decodeTableWord 64 0x070605040302017F = none ∧ decodeTableWord 64 0xFFFFFFFFFFFFFFFF = none ∧
    decodeTableWord 8 0xFFFFFFFFFFFFFF02 = some .getTransferInfo := by decide

/-- Bit by bit: opcode 00000001, l = 00001100, m = 00000010, s = 0000111111111110, r = 0001001000110100, x = 0. -/
theorem test_decode_bits :
    decodeTableWord 64 0b0000000000010010001101000000111111111110000000100000110000000001 =
      some (.captureNextTransfer 12 2 0x0FFE 0x1234) := by decide

/-- V82 and V85 as bytes on the wire, and bytes after the frame (V33). -/
theorem test_decode_bytes :
    decode [0x01, 0x08, 0x00, 0x10, 0x00, 0xA0, 0x00, 0x00] = .command (.captureNextTransfer 8 0 0x0010 0x00A0) [] ∧
    decode [0x03, 0xE8, 0x03, 0x00, 0x00, 0x02, 0x00, 0x00, 0xAA] =
      .command (.startPeriodicInterrupts 1000 2) [0xAA] ∧
    decode [0x01, 0x08, 0x00, 0x10, 0x00] = .rejected (.shortFrame 5) ∧
    decode [0x7F, 1, 2, 3, 4, 5, 6, 7] = .rejected (.unknownOpcode 0x7F) := by decide

/-- V82, V85 and V87 encoded. -/
theorem test_encode :
    encode (.captureNextTransfer 8 0 0x0010 0x00A0) = [0x01, 0x08, 0x00, 0x10, 0x00, 0xA0, 0x00, 0x00] ∧
    encode (.startPeriodicInterrupts 1000 2) = [0x03, 0xE8, 0x03, 0x00, 0x00, 0x02, 0x00, 0x00] ∧
    encode .acknowledgeInterrupt = [0x05, 0, 0, 0, 0, 0, 0, 0] := by decide

/-- Another numbering than the default one (R8): 0xA1 to 0xA6. -/
def others : Opcodes := ⟨0xA1, 0xA2, 0xA3, 0xA4, 0xA5, 0xA6⟩

/-- The dispatcher and the periodic engine read the numbering the machine is configured with (R8, R121, R256). -/
theorem test_other_numbering :
    (let s := { at' .dispatch 1 with opcodes := others, cmd := Vector.replicate 8 0xA3 };
      got .reset State.seq (step s) = .send (.preload 0) ∧
      got .reset State.seq (step { s with cmd := Vector.replicate 8 0x02 }) = .idle) ∧
    (let s := { at' (.per .awaitPop) 1 with opcodes := others };
      got .reset State.seq (step { s with rxf := [0xA6] }) = .per .classify ∧
      got .reset State.seq (step { s with rxf := [0x05] }) = .drain .notAcknowledged .cs) := by decide +kernel

/-- A placed command is what the very next step runs. -/
theorem test_placed :
    got .reset State.seq (step (State.reset.withFetchWord 64 0x00)) = .send (.preload 0) ∧
    got .reset State.seq (step (State.reset.withFetchWord 64 0x01)) = .cap .timerReset ∧
    got .reset State.seq (step (State.reset.withFetchWord 64 0x02)) = .send (.preload 0) ∧
    got .reset State.seq (step (State.reset.withFetchWord 64 0x03)) = .per .drainEdgeDisable ∧
    got .reset State.seq (step (State.reset.withFetchWord 64 0x04)) = .send (.preload 0) ∧
    got .reset State.seq (step (State.reset.withFetchWord 64 0x05)) = .idle := by decide +kernel

/-! ### Checksum Engine (V1 to V13) -/

theorem test_crc :
    computeArc [] = 0x0000 ∧ computeArc [0x00] = 0x0000 ∧ computeArc [0x01] = 0xC0C1 ∧ computeArc [0xFF] = 0x4040 ∧
    computeArc [0x41] = 0x30C0 ∧ computeArc [0xFF, 0xFF] = 0xB001 ∧ computeArc (List.replicate 8 0) = 0x0000 ∧
    computeArc [0, 0, 0, 0, 0, 0, 0, 1] = 0xC0C1 ∧ computeArc [0x10, 0x11, 0x12, 0x13] = 0xA819 ∧
    computeArc [0xA0, 0xA1, 0xA2] = 0x0BF8 ∧ computeArc [0x04, 0, 0, 0] = 0x3001 := by decide +kernel

/-- The "123456789" of V9. -/
def digits : List Byte := [0x31, 0x32, 0x33, 0x34, 0x35, 0x36, 0x37, 0x38, 0x39]

/-- V9 in the general form: the default and the other variants it lists. -/
theorem test_crc_variants :
    compute CrcVariant.arc digits = 0xBB3D ∧ compute ⟨0x1021, 0xFFFF, false, false, 0⟩ digits = 0x29B1 ∧
    compute ⟨0x1021, 0, false, false, 0⟩ digits = 0x31C3 ∧ compute ⟨0x1021, 0, true, true, 0⟩ digits = 0x2189 ∧
    compute ⟨0x8005, 0xFFFF, true, true, 0⟩ digits = 0x4B37 := by decide +kernel

/-- V13, the running register after each byte, seen through `CrcFinish` (assumption log 20). -/
theorem test_crc_running :
    (List.range 9).map (fun i => crcFinish CrcVariant.arc (crcFold CrcVariant.arc 0 (digits.take (i + 1)))) =
      [0xD4C1, 0x4594, 0xBA04, 0x14BA, 0xA455, 0x29E4, 0x9D68, 0x3C9D, 0xBB3D] := by decide +kernel

/-- V20, and a flipped bit (V23). -/
theorem test_stamp :
    stamp CrcVariant.arc [9, 9, 9, 9] = [0x04, 0x00, 0x01, 0x30] ∧
    frameValidates CrcVariant.arc [0x04, 0x00, 0x01, 0x30] = true ∧
    frameValidates CrcVariant.arc [0x04, 0x00, 0x01, 0x31] = false := by decide +kernel

/-! ### The commands, at most two tests each -/

/-- V21. -/
theorem test_getDeviceInfo :
    got [] State.frame (getDeviceInfo Params.sample { State.reset with deviceInfo := deviceInfoOf Params.sample }) =
      [0x16, 0x00, 0x7E, 0xB8, 0x78, 0x56, 0x34, 0x12, 0x02, 0x00, 0x01, 0x00, 0xC0, 0xC6, 0x2D, 0x00, 0x00, 0x6C, 0xDC,
        0x02, 0x04, 0x10] := by decide +kernel

/-- V22: the cap does not bind. -/
theorem test_getDeviceInfo_uncapped :
    got [] State.frame
      (getDeviceInfo Params.sample
        { State.reset with deviceInfo := deviceInfoOf { Params.sample with maxClockCap := 1000000000 } }) =
      [0x16, 0x00, 0x6B, 0x7D, 0x78, 0x56, 0x34, 0x12, 0x02, 0x00, 0x01, 0x00, 0x00, 0x09, 0x3D, 0x00, 0x00, 0x6C, 0xDC,
        0x02, 0x04, 0x10] := by decide +kernel

/-- V54, second row. -/
theorem test_getTransferInfo :
    got [] State.frame (getTransferInfo Params.sample { State.reset with transferResult := ⟨0xA819, 4, 4, 992, .success⟩ }) =
      [0x13, 0x00, 0x4D, 0x33, 0x19, 0xA8, 0x04, 0x00, 0x00, 0x00, 0x04, 0x00, 0x00, 0x00, 0xE0, 0x03, 0x00, 0x00,
        0x00] := by decide +kernel

/-- V54, last row. -/
theorem test_getTransferInfo_status :
    got [] State.frame
      (getTransferInfo Params.sample { State.reset with transferResult := ⟨0, 0, 0, 0x55, .edgeNotDetected⟩ }) =
      [0x13, 0x00, 0x4D, 0x4B, 0, 0, 0, 0, 0, 0, 0, 0, 0, 0, 0x55, 0, 0, 0, 0x01] := by decide +kernel

/-- V75, the last row. -/
theorem test_getPeriodicInterruptInfo :
    got [] State.frame (getPeriodicInterruptInfo Params.sample { State.reset with isrResult := ⟨2000, 2000, 0, 0, 0⟩ }) =
      [0x15, 0x00, 0x92, 0x55, 0xD0, 0x07, 0, 0, 0xD0, 0x07, 0, 0, 0, 0, 0, 0, 0, 0, 0, 0, 0] := by decide +kernel

/-- Program P3, step 16. -/
theorem test_getPeriodicInterruptInfo_counts :
    got [] State.frame (getPeriodicInterruptInfo Params.sample { State.reset with isrResult := ⟨3, 1, 1, 1, 0⟩ }) =
      [0x15, 0x00, 0x85, 0xE5, 3, 0, 0, 0, 1, 0, 0, 0, 1, 0, 0, 0, 1, 0, 0, 0, 0] := by decide +kernel

/-- V24: with a word left in `TXF`, a warning and no transfer. -/
theorem test_send_leftover :
    got ([], [], .reset) (fun s => (s.txf, s.log, s.seq)) (getTransferInfo Params.sample { State.reset with txf := [0x5A] }) =
      ([0x5A], [.sendTxNotEmpty], .idle) := by decide +kernel

/-- V36 and V48: the link of a capture request, in and out of range. -/
theorem test_capture_link :
    got State.reset.link State.link (beginCapture Params.sample 12 3 0 0 { State.reset with txf := [0xA4], rxf := [7] }) =
      { State.reset.link with mode := 3, bits := 12 } ∧
    got 0 (fun s => s.link.bits) (beginCapture Params.sample 20 0 0x10 0xA0 State.reset) = 8 := by decide +kernel

/-- What a capture reports of the words, in the sample configuration. -/
def reported (l : Byte) (sv : Word) (words : List Word) : BitVec 16 × U32 × U32 :=
  let c := { State.reset.cap with bits := effBits Params.sample l, send0 := sv, rxValue := sv.setWidth 32 };
  let r := captureResult Params.sample (words.foldl (fun c w => acceptWord Params.sample w c) c) 992 .success;
  (r.checksum, r.elementCount, r.mismatchIndex)

/-- V40 to V51. -/
theorem test_capture_words :
    reported 8 0x10 [0x10, 0x11, 0x12, 0x13] = (0xA819, 4, 4) ∧ reported 8 0x10 [0x10, 0x11, 0x99, 0x13] = (0x587F, 4, 2) ∧
    reported 8 0x10 [0x10, 0x11, 0x99, 0x77] = (0xB37E, 4, 2) ∧ reported 8 0xFE [0xFE, 0xFF, 0, 1] = (0x18C0, 4, 4) ∧
    reported 16 0x1FE [0x1FE, 0x1FF, 0x200] = (0x0BC8, 3, 3) ∧ reported 12 0xFFE [0xFFE, 0xFFF, 0] = (0xC841, 3, 3) ∧
    reported 4 0xE [0xE, 0xF, 0, 1] = (0x2BF3, 4, 4) ∧ reported 20 0x10 [0x10, 0x11] = (0xCCCD, 2, 2) ∧
    reported 8 0x10 [] = (0, 0, 0) ∧ reported 8 0x1210 [0x10, 0x11] = (0xCCCD, 2, 2) ∧
    reported 8 0x10 [0x11, 0x12, 0x13] = (0x681D, 3, 0) := by decide +kernel

/-- V46 and V45, the words sent; V37, a word cut; V35, effective lengths. -/
theorem test_words :
    (List.range 8).map (fun i => patternWord 4 0xA7 (BitVec.ofNat 32 i)) = [7, 8, 9, 0xA, 0xB, 0xC, 0xD, 0xE] ∧
    (List.range 3).map (fun i => patternWord 12 0xFFF (BitVec.ofNat 32 i)) = [0xFFF, 0, 1] ∧
    [(12 : BitVec 5), 8, 4].map (fun b => (0x1ABC : Word) &&& mask b) = [0xABC, 0xBC, 0xC] ∧
    [0, 3, 4, 7, 8, 9, 16, 17, 255].map (effBits Params.sample) = [8, 8, 4, 7, 8, 9, 16, 8, 8] := by decide +kernel

/-- V55 to V66. -/
theorem test_startPeriodic_arming :
    arming 48000000 1000 2 = .accept 48000 2000 ∧ arming 48000000 7 1 = .accept 6857142 7 ∧
    arming 48000000 0 5 = .refuse ∧ arming 48000000 48000001 1 = .refuse ∧
    arming 48000000 48000000 1 = .accept 1 48000000 ∧ arming 48000000 65537 65535 = .accept 732 4294967295 ∧
    arming 48000000 65538 65535 = .refuse ∧ arming 48000000 1000 0 = .accept 48000 0 := by decide +kernel

/-- V57 and V66: a flag, or a session that completes at once. -/
theorem test_startPeriodic_result :
    got (1, 1) (fun s => (s.isrResult.status, s.countdown)) (beginPeriodic Params.sample 0 5 State.reset) = (1, 0) ∧
    got (1, .reset) (fun s => (s.isrResult.status, s.seq)) (beginPeriodic Params.sample 1000 0 State.reset) =
      (0, .per .drainEdgeDisable) := by decide +kernel

/-- Classify with the given registers: before, after, dup, `P.LASTACK` after, and the reply. -/
def graded (lastAck countdown latency period : U32) : List U32 × List Byte :=
  let s := acknowledge Params.sample
    { State.reset with countdown := countdown, per := { State.reset.per with lastAck, latency, period } };
  ([s.per.before, s.per.after, s.per.dup, s.per.lastAck], s.reply)

/-- V60, V61, V62, V69. -/
theorem test_acknowledge :
    graded 2000 1999 1234 48000 = ([1, 0, 0, 1999], [0xD2, 0x04, 0, 0, 0x2D, 0xFB, 0xFF, 0xFF]) ∧
    graded 1999 1999 5000 48000 = ([0, 0, 1, 1999], [0xFF, 0xFF, 0xFF, 0xFF, 0, 0, 0, 0]) ∧
    graded 1999 1997 1234 48000 = ([0, 1, 0, 1997], [0x52, 0xC0, 0, 0, 0xAD, 0x3F, 0xFF, 0xFF]) ∧
    graded 1 0 9000000 48000 = ([1, 0, 0, 0], [0x40, 0x54, 0x89, 0, 0xBF, 0xAB, 0x76, 0xFF]) := by decide +kernel

/-- V68, V70, V71: late replies, the last wrapped. -/
theorem test_acknowledge_late :
    (graded 5 0 3 48000).2 = [0x03, 0xEE, 0x02, 0, 0xFC, 0x11, 0xFD, 0xFF] ∧
    (graded 3 1 5 0x80000000).2 = [0x05, 0, 0, 0x80, 0xFA, 0xFF, 0xFF, 0x7F] ∧
    (graded 4 1 5 0x80000000).2 = [0x05, 0, 0, 0, 0xFA, 0xFF, 0xFF, 0xFF] := by decide +kernel

/-! ### Timer, handler, link -/

/-- V73. -/
theorem test_tick :
    tickTimer { State.reset.timer with en := true, perEn := true, irqEn := true, per := 48000, cnt := 47999 } =
      { State.reset.timer with
        en := true, perEn := true, irqEn := true, per := 48000, cnt := 0, emo := false, irqPend := true } := by decide

/-- V53: the overflow match stops the counter, at 1000. -/
theorem test_tick_overflow :
    tickTimer { State.reset.timer with en := true, ovfEn := true, ovf := 1000, cnt := 999 } =
      { State.reset.timer with ovfEn := true, ovf := 1000, cnt := 1000 } := by decide

/-- V72, second case: the handler stops the period match and the interrupt when `COUNTDOWN` reaches 0. -/
theorem test_handler :
    got (1, .decrement, State.reset.timer) (fun t => (t.countdown, t.handler, t.timer)) (runs 4
      { State.reset with
        countdown := 1, tape := List.replicate 4 .handler,
        timer := { State.reset.timer with en := true, perEn := true, irqEn := true, irqPend := true } }) =
      (0, .notRunning, { State.reset.timer with en := true }) := by decide +kernel

/-- `SckFall` latches the counter only with the channel armed and the counter running (R82). -/
theorem test_sckFall :
    captureLatch { State.reset.timer with capArm := true, en := true, cnt := 40 } =
      { State.reset.timer with capArm := true, en := true, cnt := 40, cap := 40 } ∧
    captureLatch { State.reset.timer with capArm := true, cnt := 40 } = { State.reset.timer with capArm := true, cnt := 40 } := by
  decide

/-! ### Inputs that meet the hypotheses of each statement, clause by clause -/

theorem meets_DecodeOfEncodeIsTheCommand :
    Opcodes.table.wf = true ∧ (Instr.startPeriodicInterrupts 0xFFFFFFFF 0xFFFF).wf = true := by decide

theorem meets_OperandsAreTheLaidOutFields : Opcodes.table.wf = true := by decide

/-- In the default numbering and in another one. -/
theorem meets_StepRunsTheDecodedCommand :
    (let s := { at' .dispatch 1 with opcodes := Opcodes.table };
      decodeWith s.opcodes s.cmd.toList = .command .getDeviceInfo [] ∧ MainFor 1 .dispatch s) ∧
    (let s := { at' .dispatch 1 with opcodes := others, cmd := Vector.replicate 8 0xA3 };
      decodeWith s.opcodes s.cmd.toList = .command .getTransferInfo [] ∧ MainFor 1 .dispatch s) ∧
    Instr.getDeviceInfo.wf = true ∧
    (at' .dispatch 0).seq = .dispatch ∧ (at' .dispatch 0).tape = [] ∧ (at' .dispatch 0).handler = .notRunning ∧
    handlerMayStart (at' .dispatch 0) = false :=
  ⟨⟨by decide, ⟨rfl, rfl, rfl⟩⟩, ⟨by decide, ⟨rfl, rfl, rfl⟩⟩, rfl, rfl, rfl, rfl, rfl⟩

/-- The acknowledge opcode at the head of `RXF`, and another byte. -/
theorem meets_SessionDecodesTheFirstByteAlone :
    (∀ b : Word, MainFor 1 (.per .awaitPop) { at' (.per .awaitPop) 1 with opcodes := Opcodes.table, rxf := [b, 0x05] }) ∧
    ((0x05 : Word).setWidth 8 = Opcodes.table.acknowledgeInterrupt ∧
      (0x02 : Word).setWidth 8 ≠ Opcodes.table.acknowledgeInterrupt) ∧
    MainFor 1 (.per .classify) (at' (.per .classify) 1) ∧
    MainFor 1 (.drain .notAcknowledged (.rx false)) (at' (.drain .notAcknowledged (.rx false)) 1) ∧
    State.reset.seq ≠ .per .classify :=
  ⟨fun _ => ⟨rfl, rfl, rfl⟩, by decide, ⟨rfl, rfl, rfl⟩, ⟨rfl, rfl, rfl⟩, by decide⟩

/-- The least opcode that is none of the five in the default numbering: the acknowledge opcode itself. -/
theorem meets_UnservedOpcodesAreIgnored :
    let s := { at' .dispatch 1 with opcodes := Opcodes.table, cmd := Vector.replicate 8 0x05 };
    MainFor 1 .dispatch s ∧ s.cmd[0] ≠ s.opcodes.getDeviceInfo ∧ s.cmd[0] ≠ s.opcodes.captureNextTransfer ∧
      s.cmd[0] ≠ s.opcodes.getTransferInfo ∧ s.cmd[0] ≠ s.opcodes.startPeriodicInterrupts ∧
      s.cmd[0] ≠ s.opcodes.getPeriodicInterruptInfo := by
  unfold MainFor
  decide

theorem meets_StampSealsTheFrame :
    (4 ≤ [0, 0, 0, (0 : Byte)].length ∧ [0, 0, 0, (0 : Byte)].length ≤ 22) ∧
    4 ≤ (List.replicate 22 (0 : Byte)).length ∧ (List.replicate 22 (0 : Byte)).length ≤ 22 := by decide

/-- For the three statements `Get…BuildsTheFrame`, and for `SendAbandonsOnLeftoverWords`. -/
theorem meets_BuildsTheFrame : State.reset.txf = [] ∧ { State.reset with txf := [0x5A] }.txf ≠ [] := by decide

/-- Frames of 1, 8, 9 and 22 bytes. -/
theorem meets_SendPreloadsTheFirstBytes :
    ∀ n ∈ [1, 8, 9, 22],
      MainFor (min n 8) (.send (.preload 0)) { at' (.send (.preload 0)) 8 with frame := List.replicate n 0 } ∧
      List.replicate n (0 : Byte) ≠ [] ∧ (at' (.send (.preload 0)) 8).txf = [] ∧
      (at' (.send (.preload 0)) 8).link.bits = 8 := by
  unfold MainFor
  decide

/-- Byte 8 of 22 with `TXF` empty, the last byte with one free place, a full `TXF`, chip-select gone; the end of the loop; the
wait, and its end with 8 bytes and with 9. -/
theorem meets_SendStreamsTheRemainingBytes :
    MainFor 4 (.send (.cs 8)) { at' (.send (.cs 8)) 4 with cs := true, frame := List.replicate 22 0 } ∧
    MainFor 4 (.send (.cs 21))
      { at' (.send (.cs 21)) 4 with cs := true, frame := List.replicate 22 0, txf := List.replicate 7 0 } ∧
    MainFor 3 (.send (.cs 8)) { at' (.send (.cs 8)) 3 with cs := true, txf := List.replicate 8 0 } ∧
    MainFor 2 (.send (.cs 8)) (at' (.send (.cs 8)) 2) ∧
    MainFor 1 (.send .unmask) (at' (.send .unmask) 1) ∧
    MainFor 1 (.send .waitCs) (at' (.send .waitCs) 1) ∧
    (∀ n ∈ [8, 9],
      MainFor 2 (.send .waitCs) { at' (.send .waitCs) 2 with cs := true, frame := List.replicate n 0 }) := by
  unfold MainFor
  decide

/-- No word and 8 words to discard, for every caller; a word found with chip-select asserted, and none. -/
theorem meets_DrainDiscardsAndReturns :
    ∀ r ∈ [DrainRet.received, .sent, .notAcknowledged, .differenceNegative, .responded false, .responded true],
      (MainFor 2 (.drain r .cs) (at' (.drain r .cs) 2) ∧ (at' (.drain r .cs) 2).cs = false) ∧
      MainFor 26 (.drain r .cs) { at' (.drain r .cs) 26 with rxf := List.replicate 8 0 } ∧
      MainFor 3 (.drain r .cs) { at' (.drain r .cs) 3 with cs := true, rxf := [7, 8] } ∧
      MainFor 2 (.drain r .cs) { at' (.drain r .cs) 2 with cs := true } := by
  unfold MainFor
  decide

/-- A whole frame; a first word with chip-select asserted; the first and the last byte awaited. -/
theorem meets_ReceiveTakesAWholeFrame :
    (MainFor 27 (.recv .entry) { at' (.recv .entry) 27 with rxf := [2, 0, 0, 0, 0, 0, 0, 0] } ∧
      (at' (.recv .entry) 27).cs = false) ∧
    MainFor 1 (.recv .entry) { at' (.recv .entry) 1 with cs := true, rxf := [2] } ∧
    (∀ i ∈ [(0 : Fin 8), 7], MainFor 3 (.recv (.cs i)) { at' (.recv (.cs i)) 3 with cs := true, rxf := [2] }) := by
  unfold MainFor
  decide

/-- No word; 1 word; 7 words; the last byte awaited. -/
theorem meets_NoPartialCommandIsDispatched :
    (MainFor 1 (.recv .entry) (at' (.recv .entry) 1) ∧ (at' (.recv .entry) 1).rxf = []) ∧
    MainFor 6 (.recv .entry) { at' (.recv .entry) 6 with rxf := [1] } ∧
    MainFor 24 (.recv .entry) { at' (.recv .entry) 24 with rxf := List.replicate 7 1 } ∧
    (at' (.recv .entry) 24).cs = false ∧
    MainFor 2 (.recv (.cs 7)) { at' (.recv (.cs 7)) 2 with cs := true } :=
  ⟨⟨⟨rfl, rfl, rfl⟩, rfl⟩, ⟨rfl, rfl, rfl⟩, ⟨rfl, rfl, rfl⟩, rfl, ⟨rfl, rfl, rfl⟩⟩

/-- 7 words leave room and 8 do not; one word can be popped and none cannot. -/
theorem meets_FifosAreReachedAtTheirEnds :
    { State.reset with txf := List.replicate 7 0 }.txf.length < 8 ∧ 8 ≤ { State.reset with txf := List.replicate 8 0 }.txf.length ∧
    { State.reset with rxf := [0x07] }.rxf = [0x07] ∧ State.reset.rxf = [] := by decide

theorem meets_EffBitsFallsBackToEight : Params.sample.wf = true := by decide

/-- Modes 3 and 4, and a word in flight; for `CaptureStartsTheSession` too. -/
theorem meets_LinkConfigureSetsTheLink :
    State.reset.link.inflight = false ∧ (3 : Byte).toNat ≤ 3 ∧ 3 < (4 : Byte).toNat ∧
    { State.reset.link with inflight := true }.inflight = true := by decide

/-- Words of 8 bits and of 16. -/
theorem meets_CaptureArmsAndPreloads :
    ∀ b ∈ [(8 : BitVec 5), 16],
      let s := { at' (.cap .timerReset) 12 with
        link := { State.reset.link with bits := b }, cap := { State.reset.cap with bits := b } };
      MainFor 12 (.cap .timerReset) s ∧ s.txf = [] ∧ s.cap.bits = s.link.bits ∧ s.link.bits.toNat ≤ 16 := by
  unfold MainFor
  decide

/-- The counter at 1 and a latch of 0; a word received with chip-select asserted, and none with it gone. -/
theorem meets_CaptureFindsTheFirstEdge :
    (let s := { at' (.cap (.poll 0)) 1 with timer := { State.reset.timer with cap := 1 } };
      MainFor 1 (.cap (.poll 0)) s ∧ s.timer.cap ≠ 0) ∧
    (let s := at' (.cap (.poll 3)) 1;
      MainFor 1 (.cap (.poll 3)) s ∧ s.timer.cap = 0) ∧
    (let s := { at' (.cap .pollCs) 3 with rxf := [0x10], cs := true };
      MainFor 3 (.cap .pollCs) s ∧ s.rxf ≠ []) ∧
    (let s := at' (.cap .pollCs) 3;
      MainFor 3 (.cap .pollCs) s ∧ s.cs = false) ∧
    (let s := { at' (.cap .pollCs) 2 with cs := true };
      MainFor 2 (.cap .pollCs) s ∧ s.rxf = [] ∧ s.cs = true) ∧
    (let s := at' (.cap .waitCs) 1;
      MainFor 1 (.cap .waitCs) s ∧ s.cs = false) ∧
    (let s := { at' (.cap .waitCs) 2 with cs := true };
      MainFor 2 (.cap .waitCs) s ∧ s.cs = true) := by
  unfold MainFor
  decide

/-- A word received; none, chip-select asserted; a full `TXF`; one free place, at 8 bits and at 16. -/
theorem meets_CaptureTakesOneWord :
    MainFor 3 (.cap .cs) { at' (.cap .cs) 3 with rxf := [0x10] } ∧
    MainFor 2 (.cap .cs) { at' (.cap .cs) 2 with cs := true } ∧
    MainFor 1 (.cap .space) { at' (.cap .space) 1 with txf := List.replicate 8 0 } ∧
    (∀ b ∈ [(8 : BitVec 5), 16],
      let s := { at' (.cap .space) 2 with
        txf := List.replicate 7 0, link := { State.reset.link with bits := b }, cap := { State.reset.cap with bits := b } };
      MainFor 2 (.cap .space) s ∧ s.txf.length < 8 ∧ s.cap.bits = s.link.bits ∧ s.link.bits.toNat ≤ 16) := by
  unfold MainFor
  decide

/-- No word; and V41's words, at 16 bits too. -/
theorem meets_CaptureReportsTheExchange :
    ∀ b ∈ [(8 : BitVec 5), 16], ∀ words ∈ [[], [(0x10 : Word), 0x11, 0x99, 0x13]],
      let c := { State.reset.cap with bits := b, send0 := 0x10, rxValue := 0x10, crc := Params.sample.crc.init };
      words.length < 2 ^ 32 ∧ c.bits.toNat ≤ 16 ∧ c.rxValue = c.send0.setWidth 32 ∧ c.crc = Params.sample.crc.init ∧
        c.mismatch = none := by decide

/-- V47's captures, counter enabled and stopped; and no first edge. -/
theorem meets_CaptureStoresTheResult :
    (let s := { at' (.cap (.overflowTest 1032)) 1 with timer := { State.reset.timer with en := true } };
      MainFor 1 (.cap (.overflowTest 1032)) s ∧ s.timer.en = true) ∧
    (let s := at' (.cap (.overflowTest 1032)) 1;
      MainFor 1 (.cap (.overflowTest 1032)) s ∧ s.timer.en = false) ∧
    (let s := { at' (.cap (.rx false)) 1 with cap := { State.reset.cap with status := .edgeNotDetected } };
      MainFor 1 (.cap (.rx false)) s ∧ s.rxf = [] ∧ s.cap.status = .edgeNotDetected) ∧
    (let s := at' (.cap (.rx false)) 2;
      MainFor 2 (.cap (.rx false)) s ∧ s.rxf = [] ∧ s.cap.status = .success) := by
  unfold MainFor
  decide

/-- A state of a capture about to store its result that meets its clock relations, and whose step answers a next state. -/
theorem meets_CaptureClockInvIsKept :
    let s := { at' (.cap (.overflowTest 1032)) 1 with
      timer := { State.reset.timer with
        en := true, ovfEn := true, ovf := Config.machine.captureOverflowMatch, capArm := true }
      cap := { State.reset.cap with cap1 := 40 } };
    CaptureClockInv s ∧ MainFor 1 (.cap (.overflowTest 1032)) s ∧ s.timer.en = true ∧ IsNext (step s) := by
  have h : Config.machine.captureOverflowMatch ≠ 0 := ((params_wf_iff _).1 machine_wf).2.2.2.1
  refine ⟨⟨⟨rfl, rfl, rfl, Nat.zero_le _, fun _ => ?_, Nat.le_refl _⟩, fun _ => by decide, rfl⟩, ⟨rfl, rfl, rfl⟩, rfl,
    ⟨_, rfl⟩⟩
  exact Nat.pos_of_ne_zero fun hz => h (BitVec.eq_of_toNat_eq hz)

theorem meets_CaptureRestoresTheIdleLink :
    MainFor 2 (.cap .exitTimer) (at' (.cap .exitTimer) 2) ∧ (at' (.cap .exitTimer) 2).link.inflight = false :=
  ⟨⟨rfl, rfl, rfl⟩, rfl⟩

/-- Frequency 0; the least total that does not fit, 2^17 × 2^15; and, where a frequency above it exists, one above `F_MEAS`. -/
theorem meets_StartPeriodicRefusesWhatCannotBeArmed :
    (0 : U32) = 0 ∧ 2 ^ 32 ≤ (0x20000 : U32).toNat * (0x8000 : Word).toNat ∧
    (Config.machine.fMeas < 2 ^ 32 - 1 → Config.machine.fMeas < (0xFFFFFFFF : U32).toNat) :=
  ⟨rfl, by decide, fun h => h⟩

/-- Frequency 1 with durations 0 and 65535. -/
theorem meets_StartPeriodicLoadsTheSession :
    (1 : U32) ≠ 0 ∧ (1 : U32).toNat ≤ Config.machine.fMeas ∧ (1 : U32).toNat * (0xFFFF : Word).toNat < 2 ^ 32 ∧
    (0xFFFF : Word) ≠ 0 ∧ (1 : U32).toNat * (0 : Word).toNat < 2 ^ 32 := by
  exact ⟨by decide, ((params_wf_iff _).1 machine_wf).1.1, by decide, by decide, by decide⟩

theorem meets_ArmingProgramsTheTimer :
    MainFor 7 (.per .armTimerReset) (at' (.per .armTimerReset) 7) ∧
    MainFor 1 (.per .armCounter) (at' (.per .armCounter) 1) := ⟨⟨rfl, rfl, rfl⟩, ⟨rfl, rfl, rfl⟩⟩

theorem meets_RunningPassPreloadsFiller :
    MainFor 10 (.per .fifoClear) (at' (.per .fifoClear) 10) ∧ (at' (.per .fifoClear) 10).link.bits = 8 :=
  ⟨⟨rfl, rfl, rfl⟩, rfl⟩

/-- No edge yet; an edge; the two turns after the capture. -/
theorem meets_AwaitAckCapturesTheLatency :
    MainFor 1 (.per .waitEdge) (at' (.per .waitEdge) 1) ∧ (at' (.per .waitEdge) 1).edge.status = false ∧
    MainFor 2 (.per .waitEdge) { at' (.per .waitEdge) 2 with edge := { en := true, status := true } } ∧
    MainFor 1 (.per .deassert) (at' (.per .deassert) 1) ∧ MainFor 1 (.per .mask) (at' (.per .mask) 1) :=
  ⟨⟨rfl, rfl, rfl⟩, rfl, ⟨rfl, rfl, rfl⟩, ⟨rfl, rfl, rfl⟩, ⟨rfl, rfl, rfl⟩⟩

/-- `P.LASTACK` 4 with `COUNTDOWN` 4, 3, 2 and 5: differences 0, 1, 2 and below 0. -/
theorem meets_AcknowledgementIsGradedByItsDifference :
    (at' (.per .classify) 0).seq = .per .classify ∧ (4 : U32).toNat ≤ (4 : U32).toNat ∧
    (4 : U32).toNat - (4 : U32).toNat = 0 ∧ (4 : U32).toNat - (3 : U32).toNat = 1 ∧
    1 < (4 : U32).toNat - (2 : U32).toNat ∧ (4 : U32).toNat < (5 : U32).toNat ∧
    MainFor 1 (.drain .differenceNegative (.rx false)) (at' (.drain .differenceNegative (.rx false)) 1) := by
  unfold MainFor
  decide

/-- All 3 of 3 edges, and none of none. -/
theorem meets_AcknowledgingEveryEdgeCountsEveryEdge :
    (let s := { State.reset with countdown := 3, per := { State.reset.per with lastAck := 3 } };
      3 ≤ s.countdown.toNat ∧ s.per.lastAck = s.countdown) ∧
    0 ≤ State.reset.countdown.toNat ∧ State.reset.per.lastAck = State.reset.countdown := by decide

/-- A byte there with chip-select gone; no byte, chip-select asserted and gone; byte 0, and byte 7 with one free place; both
ends. -/
theorem meets_RespondQueuesOrRaises :
    (let s := { at' (.per .awaitCs) 2 with rxf := [0x05] };
      MainFor 2 (.per .awaitCs) s ∧ s.rxf ≠ [] ∧ s.cs = false) ∧
    (let s := { at' (.per .awaitCs) 2 with cs := true };
      MainFor 2 (.per .awaitCs) s ∧ s.rxf = [] ∧ s.cs = true) ∧
    (let s := at' (.per .awaitCs) 2;
      MainFor 2 (.per .awaitCs) s ∧ s.rxf = [] ∧ s.cs = false) ∧
    (let s := at' (.per (.respondCs 0)) 1;
      MainFor 1 (.per (.respondCs 0)) s ∧ s.cs = false) ∧
    (let s := { at' (.per (.respondCs 7)) 2 with cs := true };
      MainFor 2 (.per (.respondCs 7)) s ∧ s.cs = true ∧ s.txf = []) ∧
    (∀ i ∈ [0, 7],
      let s := { at' (.per (.respondCs i)) 4 with cs := true, txf := List.replicate 7 0 };
      MainFor 4 (.per (.respondCs i)) s ∧ s.cs = true ∧ s.txf ≠ [] ∧ s.txf.length < 8 ∧ s.link.bits = 8) ∧
    (let s := { at' (.per (.respondCs 0)) 3 with cs := true, txf := List.replicate 8 0 };
      MainFor 3 (.per (.respondCs 0)) s ∧ s.cs = true ∧ 8 ≤ s.txf.length) ∧
    (∀ abort ∈ [true, false], MainFor 1 (.per (.unmask abort)) (at' (.per (.unmask abort)) 1)) := by
  unfold MainFor
  decide

theorem meets_NaturalCompletionTallies : MainFor 1 (.per .loopTest) (at' (.per .loopTest) 1) := ⟨rfl, rfl, rfl⟩

theorem meets_DrainingRestoresEveryUnit :
    MainFor 6 (.per .drainEdgeDisable) (at' (.per .drainEdgeDisable) 6) := ⟨rfl, rfl, rfl⟩

/-- Disabled; V73's match; one tick before it; the match disabled at the same count. -/
theorem meets_TickAdvancesTheTimer :
    let t := { State.reset.timer with en := true, perEn := true, per := 48000, cnt := 47999 };
    (turnOf .tick).tape = [.tick] ∧ (turnOf .tick).timer.en = false ∧ (t.perEn = true ∧ t.cnt + 1 = t.per) ∧
      { t with cnt := 47998 }.cnt + 1 ≠ t.per ∧ { t with perEn := false }.perEn = false := by decide

/-- A period of 3: no tick, 2 ticks, 3 ticks; both functions of the pin. -/
theorem meets_EdgeEventComesAfterOnePeriod :
    let t := { State.reset.timer with en := true, perEn := true, irqEn := true, per := 3 };
    t.en = true ∧ t.perEn = true ∧ t.ovfEn = false ∧ t.cnt = 0 ∧ t.irqEn = true ∧ 0 < t.per.toNat ∧ 2 < t.per.toNat ∧
      3 = t.per.toNat ∧
      { State.reset with pinFunc := .matchOutput }.pinFunc = .matchOutput ∧ State.reset.pinFunc = .plainIO := by decide

theorem meets_HandlerStartsExactlyWhenAllowed :
    (turnOf .handler).tape = [.handler] ∧ (turnOf .handler).handler = .notRunning ∧
    handlerMayStart
      { turnOf .handler with timer := { State.reset.timer with irqEn := true, irqPend := true } } = true := by decide

/-- V72's two cases. -/
theorem meets_HandlerCountsOneEdgeEvent :
    (let s := { State.reset with
        countdown := 2, tape := [.handler, .handler], timer := { State.reset.timer with irqEn := true, irqPend := true } };
      s.handler = .notRunning ∧ s.timer.irqPend = true ∧ s.timer.irqEn = true ∧ s.imask = false ∧ s.countdown ≠ 1 ∧
        s.tape = .handler :: .handler :: []) ∧
    (let s := { State.reset with
        countdown := 1, tape := List.replicate 4 .handler,
        timer := { State.reset.timer with irqEn := true, irqPend := true } };
      s.countdown = 1 ∧ s.tape = .handler :: .handler :: .handler :: .handler :: []) := by decide

/-- Words of 1 bit and of 16, one free place in `RXF`. -/
theorem meets_OneWordIsExchanged :
    ∀ b ∈ [(1 : BitVec 5), 16],
      let s := { State.reset with
        tape := Move.wordStart :: (List.replicate b.toNat Move.sckFall ++ [Move.wordEnd 0xFFFF]), cs := true, txf := [1],
        rxf := List.replicate 7 0, link := { State.reset.link with bits := b } };
      s.tape = Move.wordStart :: (List.replicate s.link.bits.toNat Move.sckFall ++ [Move.wordEnd 0xFFFF]) ∧ s.cs = true ∧
        s.link.inflight = false ∧ s.txf = 1 :: [] ∧ s.rxf.length < 8 ∧ s.link.bits ≠ 0 := by decide

theorem meets_UnderrunAndOverrunGoOn :
    (let s := { turnOf .wordStart with cs := true };
      s.tape = [.wordStart] ∧ s.cs = true ∧ s.link.inflight = false ∧ s.txf = []) ∧
    (let s := { turnOf (.wordEnd 0) with
        link := { State.reset.link with inflight := true }, rxf := List.replicate 8 0 };
      s.tape = [.wordEnd 0] ∧ s.link.inflight = true ∧ s.link.falls = 0 ∧ 8 ≤ s.rxf.length) := by decide

theorem meets_ChipSelectMovesBetweenWords :
    (turnOf .csAssert).tape = [.csAssert] ∧ (turnOf .csAssert).cs = false ∧
    (let s := { turnOf .csDeassert with cs := true };
      s.tape = [.csDeassert] ∧ s.cs = true ∧ s.link.inflight = false) ∧
    { State.reset.link with inflight := true }.inflight = true := by decide

/-- `Config.machine` is opaque, so the bound on the clock is shown of the sample, V21's and V22's caps. -/
theorem meets_InitEstablishesTheIdleState :
    MainFor 8 (.init .link) (at' (.init .link) 8) ∧ (at' (.init .link) 8).link.inflight = false ∧
    maxClockHz Params.sample < 2 ^ 32 ∧ maxClockHz { Params.sample with maxClockCap := 1000000000 } < 2 ^ 32 :=
  ⟨⟨rfl, rfl, rfl⟩, rfl, by decide, by decide⟩

/-- `Init()` at reset and at idle; `Poll()` at idle, at reset, inside `Init()` and inside `Poll()`; both from the handler. -/
theorem meets_HostCallsInitOnceThenPoll :
    (turnOf .callInit).tape = [.callInit] ∧ (turnOf .callInit).handler = .notRunning ∧ (turnOf .callInit).seq = .reset ∧
    { turnOf .callPoll with seq := .idle }.seq = .idle ∧ (turnOf .callPoll).seq = .reset ∧
    { turnOf .callPoll with seq := .init .unmask }.seq = .init .unmask ∧
    (let s := { turnOf .callPoll with seq := .recv .entry };
      s.seq ≠ .idle ∧ s.seq ≠ .reset ∧ ∀ p, s.seq ≠ .init p) ∧
    { turnOf .callPoll with handler := .decrement }.handler ≠ .notRunning ∧
    MainFor 1 .reset (at' .reset 1) ∧ MainFor 1 .idle (at' .idle 1) := by
  refine ⟨rfl, rfl, rfl, rfl, rfl, rfl, ⟨by decide, by decide, fun p h => ?_⟩, by decide, ⟨rfl, rfl, rfl⟩, ⟨rfl, rfl, rfl⟩⟩
  cases h

theorem meets_DeviceInfoIsWrittenByInitOnly : State.reset.seq ≠ .init .link ∧ IsNext (step State.reset) :=
  ⟨by decide, ⟨_, rfl⟩⟩

/-- A tick, and a main turn while the handler runs. -/
theorem meets_OnlyTheMainFlowMovesTheSequencer :
    ((turnOf .tick).tape = .tick :: [] ∧ Move.tick ≠ .main ∧ Move.tick ≠ .callInit ∧ Move.tick ≠ .callPoll ∧
      IsNext (step (turnOf .tick))) ∧
    { turnOf .main with handler := .decrement }.handler ≠ .notRunning :=
  ⟨⟨rfl, by decide, by decide, by decide, ⟨_, rfl⟩⟩, by decide⟩

/-- A turn with the interrupt masked; one with it not masked, and the handler inside a run; a command. -/
theorem meets_MaskedRegionKeepsTheCountdown :
    (let s := { at' (.per .awaitCs) 1 with imask := true };
      s.imask = true ∧ s.handler = .notRunning ∧ s.seq ≠ .dispatch ∧ IsNext (step s)) ∧
    (let s := at' (.per .fifoClear) 1;
      s.tape = .main :: [] ∧ s.imask = false ∧ Move.main ≠ .handler ∧ s.seq ≠ .dispatch ∧ IsNext (step s)) ∧
    (let s := { turnOf .tick with handler := .decrement };
      s.tape = .tick :: [] ∧ Move.tick ≠ .handler ∧ s.seq ≠ .dispatch ∧ IsNext (step s)) ∧
    (∀ f d, Instr.acknowledgeInterrupt ≠ .startPeriodicInterrupts f d) ∧ IsNext (exec .acknowledgeInterrupt State.reset) :=
  ⟨⟨rfl, rfl, by decide, ⟨_, rfl⟩⟩, ⟨rfl, rfl, by decide, by decide, ⟨_, rfl⟩⟩, ⟨rfl, by decide, by decide, ⟨_, rfl⟩⟩,
    fun _ _ => by simp, ⟨_, rfl⟩⟩

/-- Each of the controller's five turns answers a next state. -/
theorem meets_ControllerReachesOnlyTheLink :
    ∀ m ∈ [Move.wordStart, Move.sckFall, Move.wordEnd 0xFFFF, Move.csAssert, Move.csDeassert],
      (turnOf m).tape = m :: [] ∧ isNext (step (turnOf m)) = true := by decide

/-- The invariants hold at reset, and the step from there answers a next state: the premises of the `…IsKept` statements, of
`FifosStayWellFormed` and of `FifoPreconditionsHold`. -/
theorem meets_Invariants :
    fifosWf State.reset = true ∧ ShiftInv State.reset ∧ RoomInv State.reset ∧ EngineInv State.reset ∧
    CountdownInv State.reset ∧ ResultInv State.reset ∧ IsNext (step State.reset) := by
  refine ⟨by decide, ⟨fun h => (by cases h), fun _ => rfl⟩, trivial, ?_, ?_, ⟨.inl rfl, fun h => (by cases h)⟩, ⟨_, rfl⟩⟩
  · constructor <;> simp [State.reset, masked, counterLive, captureLive, overflowLive, running, sessionDrain, beforeLink,
      capturing]
  · constructor <;> simp [State.reset, masked, Safety.arming, classifying, running, sessionDrain]

/-- An idle state that is no reset state: chip-select asserted, words in both FIFOs, 8-bit words. -/
theorem meets_EngineInv_idle :
    EngineInv { at' .idle 0 with cs := true, txf := [1], rxf := [2] } ∧ (at' .idle 0).seq = .idle := by
  refine ⟨?_, rfl⟩
  constructor <;> simp [at', State.reset, masked, counterLive, captureLive, overflowLive, running, sessionDrain, beforeLink,
    capturing]

end Sys2Proof.Tests
end

namespace Sys2Proof.Machine

/-- Settles O48: `State.reset` is a record written out field by field, so each row of R48's table is read off it. The lines
take the rows in the order of the statement: position and results, FIFOs, link, timer, edge detector, then mask and pins. -/
theorem resetIsTheIdleTable : Obligations.ResetIsTheIdleTable :=
  ⟨rfl, rfl, rfl,
    rfl, rfl,
    rfl, rfl,
    rfl,
    rfl,
    rfl, rfl, rfl, rfl⟩

end Sys2Proof.Machine

namespace Sys2Proof.Machine

open Sys2Proof.Safety

/-- An opcode byte "that equals none of the five values the dispatcher serves" (R121). -/
def Unserved (o : Opcodes) (b : Byte) : Prop :=
  b ≠ o.getDeviceInfo ∧ b ≠ o.captureNextTransfer ∧ b ≠ o.getTransferInfo ∧ b ≠ o.startPeriodicInterrupts ∧
    b ≠ o.getPeriodicInterruptInfo

/-- The default numbering gives the five the bytes 0x00 to 0x04 (R8, D6). -/
theorem unserved_table_iff (b : Byte) : Unserved Opcodes.table b ↔ 5 ≤ b.toNat := by
  simp only [Unserved, Opcodes.table]
  bv_omega

/-- Of a whole frame the decoder is left with the sixth opcode, `AcknowledgeInterrupt`, or with nothing. -/
theorem decodeFrame_of_unserved {o : Opcodes} {b0 : Byte} (h : Unserved o b0) (b1 b2 b3 b4 b5 b6 : Byte) :
    decodeFrame o b0 b1 b2 b3 b4 b5 b6 =
      if b0 = o.acknowledgeInterrupt then some .acknowledgeInterrupt else none := by
  obtain ⟨hinfo, hcap, htransfer, hstart, hperiodic⟩ := h
  rw [decodeFrame, if_neg hinfo, if_neg hcap, if_neg htransfer, if_neg hstart, if_neg hperiodic]

/-- The only command that bytes with an unserved opcode decode to is `AcknowledgeInterrupt`. -/
theorem eq_acknowledgeInterrupt_of_unserved {o : Opcodes} {b : Byte} {bs rest : List Byte} {i : Instr}
    (h : Unserved o b) (hd : decodeWith o (b :: bs) = .command i rest) : i = .acknowledgeInterrupt := by
  unfold decodeWith at hd
  split at hd
  case h_2 => cases hd
  case h_1 heq =>
    cases heq
    rw [decodeFrame_of_unserved h] at hd
    by_cases hack : b = o.acknowledgeInterrupt
    · simp only [if_pos hack, Decoded.command.injEq] at hd
      exact hd.1.symm
    · simp [if_neg hack] at hd

/-- Away from Classify `AcknowledgeInterrupt` "is treated as unknown and ignored" (R122). -/
theorem exec_acknowledgeInterrupt_of_ne_classify {s : State} (h : s.seq ≠ .per .classify) :
    exec .acknowledgeInterrupt s = .next (goTo .idle s) := if_neg h

/-- Both ways an unserved opcode can decode, to a rejection or to `AcknowledgeInterrupt`, end at Idle. -/
theorem dispatchStep_of_unserved {s : State} (hq : s.seq = .dispatch) (h : Unserved s.opcodes s.cmd[0]) :
    dispatchStep s = .next (goTo .idle s) := by
  have hcmd : s.cmd.toList = s.cmd[0] :: s.cmd.toList.drop 1 := List.drop_eq_getElem_cons (i := 0) (by simp)
  rw [dispatchStep]
  split
  next i rest hd =>
    rw [hcmd] at hd
    rw [eq_acknowledgeInterrupt_of_unserved h hd, exec_acknowledgeInterrupt_of_ne_classify]
    simp [hq]
  next => rfl

/-- Settles O7: the step at the dispatcher is `dispatchStep`, which ignores every unserved opcode. -/
theorem unservedOpcodesAreIgnored : Obligations.UnservedOpcodesAreIgnored := by
  refine ⟨fun s hm hinfo hcap htransfer hstart hperiodic => ?_, unserved_table_iff⟩
  have hq : (spent 1 s).seq = .dispatch := hm.1
  rw [step_main hm, mainFlow, hq]
  exact dispatchStep_of_unserved hq ⟨hinfo, hcap, htransfer, hstart, hperiodic⟩

end Sys2Proof.Machine

namespace Sys2Proof.Machine

open Sys2Proof.Safety

/-- Settles O21: five bits hold every supported length, because a well-formed configuration has `MAX_BITS ≤ 16` (R8). -/
theorem effBitsFallsBackToEight : Obligations.EffBitsFallsBackToEight := effBits_toNat

/-! ### A sealed frame (R161, R106) -/

/-- The field read where a 16-bit value was packed is that value. -/
theorem field16_append_le16 (pre post : List Byte) (v : BitVec 16) :
    field16 (pre ++ (le16 v ++ post)) pre.length = v := by
  have hlow : (pre ++ (le16 v ++ post)).getD pre.length 0 = byteOf v 0 := by simp [le16]
  have hhigh : (pre ++ (le16 v ++ post)).getD (pre.length + 1) 0 = byteOf v 1 := by simp [le16]
  rw [field16, hlow, hhigh, rd16_le16]

/-- The receiver's check in terms of the frame's two header fields (R105, R106). -/
theorem frameValidates_iff (v : CrcVariant) (f : List Byte) :
    frameValidates v f = true ↔
      field16 f 0 = BitVec.ofNat 16 f.length ∧ field16 f 2 = compute v (f.take 2 ++ [0, 0] ++ f.drop 4) := by
  simp [frameValidates, field16, memWrite]

variable {f : List Byte}

/-- `Stamp` replaces the 4 header bytes, whatever they held: length, then checksum. -/
theorem stamp_eq (v : CrcVariant) (h : 4 ≤ f.length) :
    stamp v f =
      le16 (BitVec.ofNat 16 f.length)
        ++ (le16 (compute v (le16 (BitVec.ofNat 16 f.length) ++ [0, 0] ++ f.drop 4)) ++ f.drop 4) := by
  obtain ⟨a, b, c, d, r, rfl⟩ := four_and_rest f h
  rw [stamp_cons, List.append_assoc]
  rfl

theorem stamp_length (v : CrcVariant) (h : 4 ≤ f.length) : (stamp v f).length = f.length := by
  simp only [stamp_eq v h, List.length_append, le16_length, List.length_drop]
  omega

theorem take_two_stamp (v : CrcVariant) (h : 4 ≤ f.length) :
    (stamp v f).take 2 = le16 (BitVec.ofNat 16 f.length) := by
  rw [stamp_eq v h]
  rfl

theorem drop_four_stamp (v : CrcVariant) (h : 4 ≤ f.length) : (stamp v f).drop 4 = f.drop 4 := by
  rw [stamp_eq v h]
  rfl

theorem field16_stamp_zero (v : CrcVariant) (h : 4 ≤ f.length) :
    field16 (stamp v f) 0 = BitVec.ofNat 16 f.length := by
  rw [stamp_eq v h]
  exact field16_append_le16 [] _ _

theorem field16_stamp_two (v : CrcVariant) (h : 4 ≤ f.length) :
    field16 (stamp v f) 2 = compute v ((stamp v f).take 2 ++ [0, 0] ++ f.drop 4) := by
  rw [take_two_stamp v h, stamp_eq v h]
  exact field16_append_le16 (le16 _) _ _

/-- The receiver accepts what `Stamp` seals: its copy with the checksum zeroed is what the checksum was computed over. -/
theorem frameValidates_stamp (v : CrcVariant) (h : 4 ≤ f.length) : frameValidates v (stamp v f) = true := by
  rw [frameValidates_iff, stamp_length v h, drop_four_stamp v h]
  exact ⟨field16_stamp_zero v h, field16_stamp_two v h⟩

/-- Settles O10: `stamp_eq` gives the sealed frame byte by byte, and a length of at most 22 fits the 16-bit field. -/
theorem stampSealsTheFrame : Obligations.StampSealsTheFrame := by
  intro v f h4 h22
  have hlen : (field16 (stamp v f) 0).toNat = f.length := by
    rw [field16_stamp_zero v h4, BitVec.toNat_ofNat]
    omega
  exact ⟨stamp_length v h4, drop_four_stamp v h4, hlen, field16_stamp_two v h4, frameValidates_stamp v h4⟩

/-! ### `Send` refused its precondition (R163) -/

theorem four_le_unsealed_length (payload : List Byte) : 4 ≤ (unsealed payload).length := by simp [unsealed]

/-- Each of the three queries begins `Send` with an unsealed frame (R304, R306, R308). -/
theorem exec_query_eq_beginSend {i : Instr} (s : State)
    (h : i = .getDeviceInfo ∨ i = .getTransferInfo ∨ i = .getPeriodicInterruptInfo) :
    ∃ payload, exec i s = beginSend Config.machine (unsealed payload) s := by
  obtain rfl | rfl | rfl := h
  · exact ⟨deviceInfoBytes s.deviceInfo, rfl⟩
  · exact ⟨transferInfoBytes s.transferResult, rfl⟩
  · exact ⟨periodicInfoBytes s.isrResult, rfl⟩

/-- Settles O14: all three queries are a `beginSend`, which with a word in `TXF` only stamps the buffer, logs and returns. -/
theorem sendAbandonsOnLeftoverWords : Obligations.SendAbandonsOnLeftoverWords := by
  intro s i htxf hi
  obtain ⟨payload, hexec⟩ := exec_query_eq_beginSend s hi
  refine ⟨stamp Config.machine.crc (unsealed payload), frameValidates_stamp _ (four_le_unsealed_length payload), ?_⟩
  rw [hexec, beginSend_eq, if_neg htxf]

end Sys2Proof.Machine

namespace Sys2Proof.Machine

open Sys2Proof.Safety

/-! ### Turns of a capture (R201) -/

section CaptureTurns

variable {s t : State} {k : Nat} {pt : CapPt}

/-- One step on the main flow's turn inside a capture. -/
theorem step_capture (h : MainFor (k + 1) (.cap pt) s) : step s = captureStep Config.machine pt (spent 1 s) := by
  have hq : (spent 1 s).seq = .cap pt := h.1
  rw [step_main h, mainFlow, hq]

/-- A turn inside a capture that leaves the handler and the tape alone, and what it leaves to be run. -/
theorem capture_turn (h : MainFor (k + 1) (.cap pt) s) (ht : captureStep Config.machine pt (spent 1 s) = .next t)
    (hh : t.handler = s.handler) (htape : t.tape = s.tape.drop 1) : runs (k + 1) s = runs k t ∧ MainFor k t.seq t :=
  ⟨runs_succ_next (by rw [step_capture h, ht]), MainFor_next h rfl hh htape⟩

/-- With `j` of the promised turns spent and the handler left alone, the rest of them are still promised. -/
theorem MainFor_of_spent {j : Nat} {q q' : Seq} (h : MainFor (j + k) q s) (hq : t.seq = q')
    (hh : t.handler = s.handler) (ht : t.tape = s.tape.drop j) : MainFor k q' t := by
  obtain ⟨-, hidle, htape⟩ := h
  refine ⟨hq, hh.trans hidle, ?_⟩
  rw [ht, ← Nat.add_sub_cancel_left j k, ← List.drop_take, htape, List.drop_replicate]

end CaptureTurns

/-- Settles O30: the exit is a timer reset and, with no word in flight, the idle link configuration. -/
theorem captureRestoresTheIdleLink : Obligations.CaptureRestoresTheIdleLink := by
  intro s h hfree
  obtain ⟨hreset, hexit⟩ := capture_turn h rfl rfl rfl
  rw [hreset, runs_one, step_capture hexit, captureStep,
    linkConfigureIdle_of_free (s := spent 1 (goTo (.cap .exitLink) (timerReset (spent 1 s)))) _ machine_wf hfree]
  simp [onNext, goTo, timerReset, spent]

/-! ### Arming and preload (R203, R204) -/

/-- The first `k` pattern words the harness sends, `receiveValue + i` in order (R203). -/
def patternWords (c : CaptureRegs) (k : Nat) : List Word :=
  (List.range k).map fun i => patternWord c.bits c.recv0 (BitVec.ofNat 32 i)

@[simp] theorem patternWords_length (c : CaptureRegs) (k : Nat) : (patternWords c k).length = k := by
  simp [patternWords]

theorem patternWords_succ (c : CaptureRegs) (k : Nat) :
    patternWords c (k + 1) = patternWords c k ++ [patternWord c.bits c.recv0 (BitVec.ofNat 32 k)] := by
  simp [patternWords, List.range_succ]

/-- As numbers the preloaded words are `receiveValue + i` modulo 2 to the word length. -/
theorem patternWords_toNat {c : CaptureRegs} (hbits : c.bits.toNat ≤ 16) {k : Nat} (hk : k ≤ 2 ^ 32) :
    (patternWords c k).map BitVec.toNat =
      (List.range k).map fun i => (c.recv0.toNat + i) % 2 ^ c.bits.toNat := by
  rw [patternWords, List.map_map]
  refine List.map_congr_left fun i hi => ?_
  have hlt : i < 2 ^ 32 := (List.mem_range.mp hi).trans_le hk
  rw [Function.comp_apply, patternWord_toNat hbits, BitVec.toNat_ofNat, Nat.mod_eq_of_lt hlt]

/-- The state after step 2: 4 turns used up, the timer reset and armed, no word queued yet (R203, R204). -/
def captureArmed (s : State) : State :=
  { spent 4 s with
    timer :=
      { s.timer with
        en := false, cnt := 0, cap := 0, capArm := true, perEn := false, ovf := Config.machine.captureOverflowMatch,
        ovfEn := true, irqEn := false, irqPend := false }
    cap := { s.cap with txIndex := 0 }
    seq := .cap (.preload 0) }

/-- The state when `k` turns have queued `k` pattern words, into an empty `TXF` (R203). -/
def preloadedState (k : Nat) (s : State) : State :=
  { spent k s with
    cap := { s.cap with txIndex := BitVec.ofNat 32 k }
    txf := patternWords s.cap k
    seq := if k < fifoDepth then .cap (.preload k) else .cap .waitCs }

section ArmingAndPreload

variable {s : State}

theorem runs_capture_arming {k : Nat} (h : MainFor (4 + k) (.cap .timerReset) s) :
    runs (4 + k) s = runs k (captureArmed s) := by
  rw [Nat.add_comm] at h ⊢
  obtain ⟨hreset, h⟩ := capture_turn h rfl rfl rfl
  obtain ⟨hmatch, h⟩ := capture_turn h rfl rfl rfl
  obtain ⟨henable, h⟩ := capture_turn h rfl rfl rfl
  obtain ⟨harm, -⟩ := capture_turn h rfl rfl rfl
  rw [hreset, hmatch, henable, harm]
  simp [captureArmed, goTo, timerReset, setOverflow, setOverflowEnable, setCaptureArm, spent]

theorem preloadedState_zero (hq : s.seq = .cap (.preload 0)) (htxf : s.txf = []) (hidx : s.cap.txIndex = 0) :
    preloadedState 0 s = s := by
  obtain ⟨_, _, _, _, _, _, _, _, cap⟩ := s
  obtain ⟨⟩ := cap
  simp_all [preloadedState, patternWords, spent]

/-- One more pattern word: it goes in uncut, and the next turn has the next index. -/
theorem captureStep_preload {k : Nat} (hk : k < 8) (hbits : s.cap.bits = s.link.bits) :
    captureStep Config.machine (.preload k) (spent 1 (preloadedState k s)) = .next (preloadedState (k + 1) s) := by
  have hroom : (spent 1 (preloadedState k s)).txf.length < 8 := (patternWords_length s.cap k).trans_lt hk
  have hnext : nextSendWord (spent 1 (preloadedState k s)).cap &&& mask (spent 1 (preloadedState k s)).link.bits =
      patternWord s.cap.bits s.cap.recv0 (BitVec.ofNat 32 k) := by
    rw [show (spent 1 (preloadedState k s)).link.bits = s.cap.bits from hbits.symm]
    exact patternWord_and_mask ..
  rw [captureStep, txPush_of_room hroom, hnext]
  simp [onNext, preloadedState, patternWords_succ, countSent, goTo, spent, BitVec.ofNat_add]

theorem runs_capture_preload (h : MainFor 8 (.cap (.preload 0)) s) (htxf : s.txf = []) (hidx : s.cap.txIndex = 0)
    (hbits : s.cap.bits = s.link.bits) : ∀ k ≤ 8, runs k s = .next (preloadedState k s) := by
  intro k hk
  induction k with
  | zero => rw [runs_zero, preloadedState_zero h.1 htxf hidx]
  | succ k ih =>
    have hlt : k < 8 := hk
    have hsum : 8 = k + (7 - k + 1) := by omega
    rw [hsum] at h
    have hmain : MainFor (7 - k + 1) (.cap (.preload k)) (preloadedState k s) :=
      MainFor_of_spent h (if_pos hlt) rfl rfl
    rw [runs_add (ih hlt.le), runs_one, step_capture hmain, captureStep_preload hlt hbits]

end ArmingAndPreload

/-- Settles O24: 4 turns arm the timer, 8 queue the pattern words. -/
theorem captureArmsAndPreloads : Obligations.CaptureArmsAndPreloads := by
  intro s h htxf hbits hle
  refine ⟨patternWords s.cap 8, ?_, ?_⟩
  · rw [← hbits] at hle ⊢
    exact patternWords_toNat hle (by decide)
  have harm := runs_capture_arming (k := 8) h
  have hpre : MainFor 8 (.cap (.preload 0)) (captureArmed s) := MainFor_of_spent (j := 4) h rfl rfl rfl
  rw [harm, runs_capture_preload hpre htxf rfl hbits 8 le_rfl]
  simp [preloadedState, captureArmed, patternWords, spent]

/-! ### The whole exchange (R211, R212, R215) -/

/-- Whether the word at an index differs from `sendValue + k` modulo 2 to the word length (R212). -/
def differs (c : CaptureRegs) (x : Word × Nat) : Bool :=
  decide (x.1.toNat ≠ (c.send0.toNat + x.2) % 2 ^ c.bits.toNat)

/-- How many words arrive before the first that differs: all of them if none does (R212, R215). -/
def mismatchPosition (c : CaptureRegs) (words : List Word) : Nat := words.zipIdx.findIdx (differs c)

/-- What `C.MISMATCH` holds after the words. -/
def firstMismatch (c : CaptureRegs) (words : List Word) : Option U32 :=
  (words.zipIdx.findIdx? (differs c)).map (BitVec.ofNat 32)

/-- The working registers after an exchange of `words` that began with `c`; `foldl_acceptWord` ties it to the model. -/
def exchanged (p : Params) (words : List Word) (c : CaptureRegs) : CaptureRegs :=
  { c with
    crc := crcFold p.crc c.crc (words.flatMap (checksumBytes c.bits))
    mismatch := firstMismatch c words
    rxValue := c.send0.setWidth 32 + BitVec.ofNat 32 words.length }

section Exchange

variable (c : CaptureRegs) (words : List Word)

/-! #### The first mismatch -/

theorem mismatchPosition_le_length : mismatchPosition c words ≤ words.length :=
  List.findIdx_le_length.trans_eq List.length_zipIdx

/-- Before the first mismatch the words are the expected ones. -/
theorem toNat_getElem_of_lt_mismatchPosition {k : Nat} (hk : k < words.length) (h : k < mismatchPosition c words) :
    words[k].toNat = (c.send0.toNat + k) % 2 ^ c.bits.toNat := by
  have hsame := List.not_of_lt_findIdx h
  rw [List.getElem_zipIdx] at hsame
  simpa [differs] using hsame

/-- At the first mismatch the word is not the expected one. -/
theorem toNat_getElem_mismatchPosition_ne (h : mismatchPosition c words < words.length) :
    words[mismatchPosition c words].toNat ≠ (c.send0.toNat + mismatchPosition c words) % 2 ^ c.bits.toNat := by
  have hlt : words.zipIdx.findIdx (differs c) < words.zipIdx.length := h.trans_eq List.length_zipIdx.symm
  have hdiffers : differs c words.zipIdx[words.zipIdx.findIdx (differs c)] = true := List.findIdx_getElem
  rw [List.getElem_zipIdx] at hdiffers
  simpa [differs, mismatchPosition] using hdiffers

/-- With the sentinel "equal to element count" the stored index is the position of the first mismatch (R215). -/
theorem firstMismatch_getD_length :
    (firstMismatch c words).getD (BitVec.ofNat 32 words.length) = BitVec.ofNat 32 (mismatchPosition c words) := by
  rw [firstMismatch, mismatchPosition, List.findIdx_eq_getD_findIdx?, List.length_zipIdx, Option.getD_map]

theorem firstMismatch_concat (w : Word) :
    firstMismatch c (words ++ [w]) =
      (firstMismatch c words).or
        (if differs c (w, words.length) then some (BitVec.ofNat 32 words.length) else none) := by
  rw [firstMismatch, List.zipIdx_append, List.findIdx?_append, Option.map_or]
  cases h : differs c (w, words.length) <;> simp [firstMismatch, h]

/-- `mismatchAfter` keeps a mismatch found before, else takes the index of this word if it differs. -/
theorem mismatchAfter_eq_or (w : Word) :
    mismatchAfter c w = c.mismatch.or (if w = expectedWord c then none else some (elementIndex c)) := by
  rw [mismatchAfter]
  cases c.mismatch <;> rfl

/-! #### One more word -/

variable {c words} (p : Params)

theorem elementIndex_exchanged : elementIndex (exchanged p words c) = BitVec.ofNat 32 words.length :=
  add_sub_cancel_left _ _

/-- After `n` words the engine expects `sendValue + n` modulo 2 to the word length. -/
theorem ne_expectedWord_exchanged_iff (hlen : words.length < 2 ^ 32) (hbits : c.bits.toNat ≤ 16) (w : Word) :
    w ≠ expectedWord (exchanged p words c) ↔ differs c (w, words.length) = true := by
  have hpattern : expectedWord (exchanged p words c) = patternWord c.bits c.send0 (BitVec.ofNat 32 words.length) := rfl
  rw [hpattern, ne_eq, ← BitVec.toNat_inj, patternWord_toNat hbits, BitVec.toNat_ofNat, Nat.mod_eq_of_lt hlen, differs,
    decide_eq_true_iff]

theorem mismatchAfter_exchanged (hlen : words.length < 2 ^ 32) (hbits : c.bits.toNat ≤ 16) (w : Word) :
    mismatchAfter (exchanged p words c) w = firstMismatch c (words ++ [w]) := by
  rw [mismatchAfter_eq_or, elementIndex_exchanged, firstMismatch_concat, ← ite_not]
  exact congrArg _ (if_congr (ne_expectedWord_exchanged_iff p hlen hbits w) rfl rfl)

/-- One more word taken: its bytes are the last of the checksum, and it is compared and counted as the last word. -/
theorem acceptWord_exchanged (hlen : words.length < 2 ^ 32) (hbits : c.bits.toNat ≤ 16) (w : Word) :
    acceptWord p w (exchanged p words c) = exchanged p (words ++ [w]) c := by
  rw [acceptWord, mismatchAfter_exchanged p hlen hbits w]
  simp [exchanged, crcFold_append, BitVec.ofNat_add, BitVec.add_assoc]

/-- The whole exchange, from the first word on: an induction that adds the words at the end. -/
theorem foldl_acceptWord (hlen : words.length < 2 ^ 32) (hbits : c.bits.toNat ≤ 16)
    (hrx : c.rxValue = c.send0.setWidth 32) (hmis : c.mismatch = none) :
    words.foldl (fun d w => acceptWord p w d) c = exchanged p words c := by
  induction words using List.reverseRecOn with
  | nil => simp [exchanged, firstMismatch, crcFold, ← hrx, ← hmis]
  | append_singleton ws w ih =>
    have hws : ws.length < 2 ^ 32 := by
      rw [List.length_append] at hlen
      omega
    rw [List.foldl_concat, ih hws, acceptWord_exchanged p hws hbits w]

end Exchange

/-- Settles O27: the fold over the words is `exchanged`, and the result is read off its registers. -/
theorem captureReportsTheExchange : Obligations.CaptureReportsTheExchange := by
  intro p c words ticks st hlen hbits hrx hcrc hmis
  rw [foldl_acceptWord p hlen hbits hrx hmis]
  intro r
  have hcount : r.elementCount.toNat = words.length := by
    rw [show r.elementCount = _ from elementIndex_exchanged p, BitVec.toNat_ofNat, Nat.mod_eq_of_lt hlen]
  have hsum : r.checksum = compute p.crc (words.flatMap (checksumBytes c.bits)) := by
    rw [compute, ← hcrc]
    rfl
  have hindex : r.mismatchIndex.toNat = mismatchPosition c words := by
    have hle := mismatchPosition_le_length c words
    have hgetD : r.mismatchIndex = BitVec.ofNat 32 (mismatchPosition c words) := by
      rw [← firstMismatch_getD_length, ← elementIndex_exchanged p]
      rfl
    rw [hgetD, BitVec.toNat_ofNat, Nat.mod_eq_of_lt (by omega)]
  refine ⟨rfl, rfl, hcount, hsum, ?_⟩
  rw [hindex]
  exact ⟨fun _ => toNat_getElem_of_lt_mismatchPosition c words, mismatchPosition_le_length c words,
    toNat_getElem_mismatchPosition_ne c words⟩

end Sys2Proof.Machine

namespace Sys2Proof.Machine

open Sys2Proof.Safety

/-! ### Turns of a periodic session (R241) -/

section PeriodicTurns

variable {s : State} {k : Nat} {pt : PerPt}

/-- One step on the main flow's turn inside a session, away from Classify. -/
theorem step_periodic (h : MainFor (k + 1) (.per pt) s) (hpt : pt ≠ .classify) :
    step s = periodicStep Config.machine pt (spent 1 s) := by
  have hq : (spent 1 s).seq = .per pt := h.1
  rw [step_main h, mainFlow, hq]
  exact if_neg hpt

/-- One step on the main flow's turn inside `DrainExchange` (R15). -/
theorem step_drain {r : DrainRet} {d : DrainPt} (h : MainFor (k + 1) (.drain r d) s) :
    step s = drainStep r d (spent 1 s) := by
  have hq : (spent 1 s).seq = .drain r d := h.1
  rw [step_main h, mainFlow, hq]

/-- A position that is taken again is no change. -/
theorem goTo_of_seq_eq {q : Seq} (h : s.seq = q) : goTo q s = s := by
  subst h
  rfl

/-- With `T.EMO` at 1 the edge output is high, whatever drives the pin (R40). -/
theorem edgeOut_of_emo (h : s.timer.emo = true) : edgeOut s = true := by
  cases hpin : s.pinFunc <;> simp [edgeOut, hpin, h]

end PeriodicTurns

/-- Settles O39: the loop test is a single turn, which tallies or begins the next pass. -/
theorem naturalCompletionTallies : Obligations.NaturalCompletionTallies := by
  intro s h
  rw [step_periodic h (by decide)]
  rfl

/-- Settles O35: each clause runs the turns of its positions, of which only the wait branches, on the edge status. -/
theorem awaitAckCapturesTheLatency : Obligations.AwaitAckCapturesTheLatency := by
  intro s
  refine ⟨fun h hnone => ?waits, fun h hedge => ?captures, fun h => ?raises, fun h => ?masks⟩
  case waits =>
    have hwait : edgeStatus (spent 1 s) ≠ true := by simpa [spent] using hnone
    rw [step_periodic h (by decide), periodicStep, if_neg hwait, goTo_of_seq_eq (s := spent 1 s) h.1]
  case captures =>
    have hwait : step s = .next (goTo (.per .latency) (spent 1 s)) := by
      rw [step_periodic h (by decide), periodicStep, if_pos (show edgeStatus (spent 1 s) = true from hedge)]
    have hlatency : MainFor 1 (.per .latency) (goTo (.per .latency) (spent 1 s)) := MainFor_next h rfl rfl rfl
    rw [runs_succ_next hwait, runs_one, step_periodic hlatency (by decide), periodicStep]
    simp [goTo, spent]
  case raises =>
    exact ⟨_, step_periodic h (by decide), edgeOut_of_emo rfl, rfl⟩
  case masks =>
    rw [step_periodic h (by decide)]
    rfl

/-! ### Classify (R260, R261) -/

/-- The AcknowledgementReply holds the latency, then its complement (R116). -/
theorem field32_ackReply (v : U32) : field32 (ackReply v) 0 = v ∧ field32 (ackReply v) 4 = ~~~v :=
  ⟨rd32_le32 v, rd32_le32 (~~~v)⟩

section Classify

variable {s : State} (p : Params)

/-- At Classify `AcknowledgeInterrupt` grades the acknowledgement (R309). -/
theorem exec_acknowledgeInterrupt_of_classify (h : s.seq = .per .classify) :
    exec .acknowledgeInterrupt s = .next (acknowledge Config.machine s) := if_pos h

theorem acknowledge_negative (h : s.per.lastAck.toNat < s.countdown.toNat) :
    acknowledge p s = goTo (.drain .differenceNegative .cs) s := by
  rw [acknowledge, classifyAck_negative _ _ h]

theorem acknowledge_duplicate (h : s.per.lastAck = s.countdown) :
    acknowledge p s = respondWith p.invalidLatency { s with per := { s.per with dup := s.per.dup + 1 } } := by
  rw [acknowledge, classifyAck_zero _ _ h]

theorem acknowledge_onTime (h : s.per.lastAck.toNat = s.countdown.toNat + 1) :
    acknowledge p s = respondWith s.per.latency { s with per := { s.per with before := s.per.before + 1 } } := by
  rw [acknowledge, classifyAck_one _ _ h]

theorem acknowledge_late (h : s.countdown.toNat + 1 < s.per.lastAck.toNat) :
    ∃ latency : U32,
      acknowledge p s = respondWith latency { s with per := { s.per with after := s.per.after + 1 } } ∧
      latency.toNat =
        ((s.per.lastAck.toNat - s.countdown.toNat - 1) * s.per.period.toNat + s.per.latency.toNat) % 2 ^ 32 := by
  obtain ⟨latency, hclass, hvalue⟩ := classifyAck_late s.per.period s.per.latency h
  exact ⟨latency, by rw [acknowledge, hclass], hvalue⟩

end Classify

/-- Settles O36: the difference as a natural number is 0, 1 or more, or `COUNTDOWN` is above `P.LASTACK`; each is graded by
its own `acknowledge` lemma, and the drain of the last raises the anomaly at its end. -/
theorem acknowledgementIsGradedByItsDifference : Obligations.AcknowledgementIsGradedByItsDifference := by
  refine ⟨fun s hq => ?_, fun s h hrxf => ?_⟩
  · rw [exec_acknowledgeInterrupt_of_classify hq]
    refine ⟨fun hle => ?_, fun hlt => by rw [acknowledge_negative _ hlt, goTo]⟩
    obtain hzero | hone | hmore : s.per.lastAck.toNat = s.countdown.toNat ∨
        s.per.lastAck.toNat = s.countdown.toNat + 1 ∨ s.countdown.toNat + 1 < s.per.lastAck.toNat := by omega
    · rw [acknowledge_duplicate _ (BitVec.eq_of_toNat_eq hzero)]
      refine ⟨_, _, _, _, _, rfl, rfl, (field32_ackReply _).1, (field32_ackReply _).2,
        fun _ => ⟨rfl, rfl, rfl, rfl⟩, fun h1 => ?_, fun h2 => ?_⟩ <;> omega
    · rw [acknowledge_onTime _ hone]
      refine ⟨_, _, _, _, _, rfl, rfl, (field32_ackReply _).1, (field32_ackReply _).2,
        fun h0 => ?_, fun _ => ⟨rfl, rfl, rfl, rfl⟩, fun h2 => ?_⟩ <;> omega
    · obtain ⟨latency, hack, hvalue⟩ := acknowledge_late Config.machine hmore
      rw [hack]
      refine ⟨_, _, _, _, _, rfl, rfl, (field32_ackReply _).1, (field32_ackReply _).2,
        fun h0 => ?_, fun h1 => ?_, fun _ => ⟨hvalue, rfl, rfl, rfl⟩⟩ <;> omega
  · have hempty : rxNotEmpty (spent 1 s) ≠ true := by simpa [spent] using hrxf
    rw [step_drain h, drainStep, if_neg hempty]
    rfl

end Sys2Proof.Machine

namespace Sys2Proof.Machine

open Sys2Proof.Safety

/-! ### Decoding what was encoded (R101 to R104, R118 to R121) -/

section Decoding

variable {o : Opcodes}

/-- Distinct opcodes, each unlike those the decoder compares the first byte with before it. -/
theorem opcodes_wf_iff :
    o.wf = true ↔
      o.captureNextTransfer ≠ o.getDeviceInfo ∧
      (o.getTransferInfo ≠ o.getDeviceInfo ∧ o.getTransferInfo ≠ o.captureNextTransfer) ∧
      (o.startPeriodicInterrupts ≠ o.getDeviceInfo ∧ o.startPeriodicInterrupts ≠ o.captureNextTransfer ∧
        o.startPeriodicInterrupts ≠ o.getTransferInfo) ∧
      (o.getPeriodicInterruptInfo ≠ o.getDeviceInfo ∧ o.getPeriodicInterruptInfo ≠ o.captureNextTransfer ∧
        o.getPeriodicInterruptInfo ≠ o.getTransferInfo ∧ o.getPeriodicInterruptInfo ≠ o.startPeriodicInterrupts) ∧
      Unserved o o.acknowledgeInterrupt := by
  simp only [Opcodes.wf, Opcodes.toList, Unserved, decide_eq_true_iff, List.nodup_cons, List.mem_cons, not_or, ne_eq,
    List.not_mem_nil, not_false_eq_true, List.nodup_nil, and_true]
  grind

variable (h : o.wf = true) (b1 b2 b3 b4 b5 b6 : Byte)
include h

theorem decodeFrame_captureNextTransfer :
    decodeFrame o o.captureNextTransfer b1 b2 b3 b4 b5 b6 =
      some (.captureNextTransfer b1 b2 (rd16 b3 b4) (rd16 b5 b6)) := by
  rw [decodeFrame, if_neg (opcodes_wf_iff.1 h).1, if_pos rfl]

theorem decodeFrame_getTransferInfo :
    decodeFrame o o.getTransferInfo b1 b2 b3 b4 b5 b6 = some .getTransferInfo := by
  obtain ⟨-, ⟨hinfo, hcap⟩, -⟩ := opcodes_wf_iff.1 h
  rw [decodeFrame, if_neg hinfo, if_neg hcap, if_pos rfl]

theorem decodeFrame_startPeriodicInterrupts :
    decodeFrame o o.startPeriodicInterrupts b1 b2 b3 b4 b5 b6 =
      some (.startPeriodicInterrupts (rd32 b1 b2 b3 b4) (rd16 b5 b6)) := by
  obtain ⟨-, -, ⟨hinfo, hcap, htransfer⟩, -⟩ := opcodes_wf_iff.1 h
  rw [decodeFrame, if_neg hinfo, if_neg hcap, if_neg htransfer, if_pos rfl]

theorem decodeFrame_getPeriodicInterruptInfo :
    decodeFrame o o.getPeriodicInterruptInfo b1 b2 b3 b4 b5 b6 = some .getPeriodicInterruptInfo := by
  obtain ⟨-, -, -, ⟨hinfo, hcap, htransfer, hstart⟩, -⟩ := opcodes_wf_iff.1 h
  rw [decodeFrame, if_neg hinfo, if_neg hcap, if_neg htransfer, if_neg hstart, if_pos rfl]

theorem decodeFrame_acknowledgeInterrupt :
    decodeFrame o o.acknowledgeInterrupt b1 b2 b3 b4 b5 b6 = some .acknowledgeInterrupt := by
  obtain ⟨-, -, -, -, hunserved⟩ := opcodes_wf_iff.1 h
  rw [decodeFrame_of_unserved hunserved, if_pos rfl]

end Decoding

/-- The 8 bytes of a whole frame decode by `decodeFrame`; the last of them is ignored (R101, R123). -/
theorem decodeWith_of_decodeFrame {o : Opcodes} {b0 b1 b2 b3 b4 b5 b6 : Byte} {i : Instr}
    (h : decodeFrame o b0 b1 b2 b3 b4 b5 b6 = some i) (b7 : Byte) (rest : List Byte) :
    decodeWith o (b0 :: b1 :: b2 :: b3 :: b4 :: b5 :: b6 :: b7 :: rest) = .command i rest := by
  rw [decodeWith, h]

/-- Settles O1: under distinct opcodes each command's frame decodes by its own row, and little-endian fields read back. -/
theorem decodeOfEncodeIsTheCommand : Obligations.DecodeOfEncodeIsTheCommand := by
  intro o i rest ho _
  cases i with
  | getDeviceInfo => exact decodeWith_of_decodeFrame (if_pos rfl) 0 rest
  | captureNextTransfer l m sv rv =>
    apply decodeWith_of_decodeFrame
    rw [decodeFrame_captureNextTransfer ho, rd16_le16, rd16_le16]
  | getTransferInfo => exact decodeWith_of_decodeFrame (decodeFrame_getTransferInfo ho ..) 0 rest
  | startPeriodicInterrupts f d =>
    apply decodeWith_of_decodeFrame
    rw [decodeFrame_startPeriodicInterrupts ho, rd32_le32, rd16_le16]
  | getPeriodicInterruptInfo => exact decodeWith_of_decodeFrame (decodeFrame_getPeriodicInterruptInfo ho ..) 0 rest
  | acknowledgeInterrupt => exact decodeWith_of_decodeFrame (decodeFrame_acknowledgeInterrupt ho ..) 0 rest

/-- Settles O2: both payloads decode field by field, whatever byte 7 is. -/
theorem operandsAreTheLaidOutFields : Obligations.OperandsAreTheLaidOutFields := by
  intro o b1 b2 b3 b4 b5 b6 b7 rest ho
  refine ⟨⟨rd16 b3 b4, rd16 b5 b6, rd16_toNat .., rd16_toNat .., ?_⟩,
    ⟨rd32 b1 b2 b3 b4, rd16 b5 b6, rd32_toNat .., rd16_toNat .., ?_⟩⟩
  · exact decodeWith_of_decodeFrame (decodeFrame_captureNextTransfer ho ..) b7 rest
  · exact decodeWith_of_decodeFrame (decodeFrame_startPeriodicInterrupts ho ..) b7 rest

/-- The first byte alone settles whether a whole frame is a command (R120, R121). -/
theorem exists_decodeFrame_iff (o : Opcodes) (b0 b1 b2 b3 b4 b5 b6 : Byte) :
    (∃ i, decodeFrame o b0 b1 b2 b3 b4 b5 b6 = some i) ↔ b0 ∈ o.toList := by
  simp only [decodeFrame, Opcodes.toList, List.mem_cons, List.not_mem_nil, or_false]
  split_ifs <;> simp_all

/-- Settles O3: with 8 bytes the first decides, and with fewer the decoder has no frame. -/
theorem onlyTheSixOpcodesDecode : Obligations.OnlyTheSixOpcodesDecode := by
  intro o bytes
  unfold decodeWith
  split
  next b0 b1 b2 b3 b4 b5 b6 b7 rest =>
    have hframe := exists_decodeFrame_iff o b0 b1 b2 b3 b4 b5 b6
    have hlen : cmdLen ≤ (b0 :: b1 :: b2 :: b3 :: b4 :: b5 :: b6 :: b7 :: rest).length := Nat.le_add_left ..
    cases hd : decodeFrame o b0 b1 b2 b3 b4 b5 b6 <;> simp_all
  next hshort =>
    have hlen : ¬ cmdLen ≤ bytes.length := fun hle => by
      match bytes, hle with
      | b0 :: b1 :: b2 :: b3 :: b4 :: b5 :: b6 :: b7 :: rest, _ => exact hshort _ _ _ _ _ _ _ _ _ rfl
    simp [hlen]

/-- Settles O4: each word is 8 bytes, which the kernel decodes. -/
theorem tableWordsDecode : Obligations.TableWordsDecode := by
  unfold Obligations.TableWordsDecode
  decide

end Sys2Proof.Machine

namespace Sys2Proof.Machine

open Sys2Proof.Safety

/-! ### The two forms of the checksum (R142, R145) -/

/-- A byte put reflected into the high half of the register is, on the reflected register, the byte in the low half. -/
theorem reverse_high_byte (b : Byte) : (b.reverse.setWidth 16 <<< 8).reverse = b.setWidth 16 := by
  apply BitVec.eq_of_getLsbD_eq
  intro i hi
  rw [reverse_getLsbD _ _ hi, BitVec.getLsbD_shiftLeft, BitVec.getLsbD_setWidth, BitVec.getLsbD_setWidth,
    BitVec.getLsbD_reverse, BitVec.getMsbD_eq_getLsbD]
  by_cases hlow : i < 8
  · have hhigh : ¬ 15 - i < 8 := by omega
    have hback : 8 - 1 - (15 - i - 8) = i := by omega
    have hin : 15 - i < 16 ∧ 15 - i - 8 < 16 ∧ 15 - i - 8 < 8 := by omega
    simp [hhigh, hback, hin, hi]
  · have hhigh : 15 - i < 8 := by omega
    simp [hhigh, BitVec.getLsbD_of_ge b i (by omega)]

theorem crcByte_reverse (c : BitVec 16) (b : Byte) : (crcByte CrcVariant.arc c b).reverse = crcByteArc c.reverse b := by
  rw [crcByte, CrcVariant.arc, crcShift_reverse, crcByteArc, reverse_xor16, if_pos rfl, reverse_high_byte]

theorem crcFold_reverse (c : BitVec 16) (bytes : List Byte) :
    (crcFold CrcVariant.arc c bytes).reverse = bytes.foldl crcByteArc c.reverse := by
  induction bytes generalizing c with
  | nil => rfl
  | cons b bytes ih => rw [List.foldl_cons, ← crcByte_reverse, ← ih]; rfl

/-- Settles O8: the reflected register is the reversal of the general one, and the default variant reverses at the end. -/
theorem reflectedCrcEqualsTheDefaultCrc : Obligations.ReflectedCrcEqualsTheDefaultCrc := by
  intro bytes
  have hfinish (c : BitVec 16) : crcFinish CrcVariant.arc c = c.reverse := BitVec.xor_zero
  have hinit : (0 : BitVec 16) = CrcVariant.arc.init.reverse := by decide
  rw [computeArc, compute, hfinish, crcFold_reverse, ← hinit]

/-- Settles O9: folding over the concatenation is folding chunk by chunk. -/
theorem runningChecksumIgnoresGrouping : Obligations.RunningChecksumIgnoresGrouping := by
  intro v chunks
  rw [compute, crcFold, List.foldl_flatten]
  rfl

end Sys2Proof.Machine

namespace Sys2Proof.Machine

open Sys2Proof.Safety

/-! ### FIFO access and link configuration (R72, R73, R181) -/

section LinkConfiguration

variable {p : Params} {m l : Byte} {s : State}

theorem linkConfigure_of_inflight (h : s.link.inflight = true) :
    linkConfigure p m l s = .refused .linkConfigureInFlight := if_pos h

theorem linkConfigure_of_free (h : s.link.inflight = false) :
    linkConfigure p m l s =
      .next { s with
        link := { s.link with mode := configuredMode m s, bits := effBits p l }
        txf := []
        rxf := []
        draws := if m.toNat ≤ 3 then s.draws else s.draws + 1 } := if_neg (by simp [h])

theorem configuredMode_of_le (h : m.toNat ≤ 3) : configuredMode m s = BitVec.ofNat 2 m.toNat :=
  (if_pos h).trans (BitVec.ofNat_toNat 2 m).symm

end LinkConfiguration

/-- Settles O20: the word `TxPush` appends is cut by the mask, which is a remainder; the rest is `txPush` and `rxPop`. -/
theorem fifosAreReachedAtTheirEnds : Obligations.FifosAreReachedAtTheirEnds := fun s w _ =>
  ⟨fun hroom => ⟨w &&& mask s.link.bits, and_mask_toNat w _, txPush_of_room hroom⟩, txPush_of_full,
    fun _ _ => rxPop_of_cons, rxPop_of_nil⟩

/-- Settles O22: a word in flight, a mode up to 3, and a mode above 3. -/
theorem linkConfigureSetsTheLink : Obligations.LinkConfigureSetsTheLink := by
  intro p m l s
  refine ⟨linkConfigure_of_inflight, fun hfree hle => ?_, fun hfree hlt => ⟨configuredMode m s, ?_⟩⟩
  · rw [linkConfigure_of_free hfree, configuredMode_of_le hle, if_pos hle]
  · rw [linkConfigure_of_free hfree, if_neg (Nat.not_le.2 hlt)]

/-! ### The query commands (R304, R306, R308) -/

section Queries

variable (v : CrcVariant) (payload : List Byte)

@[simp] theorem unsealed_length : (unsealed payload).length = payload.length + 4 := by simp [unsealed]

/-- Sealing leaves the payload where `unsealed` put it, after the 4 header bytes (R105). -/
theorem getD_stamp_unsealed (k : Nat) : (stamp v (unsealed payload)).getD (k + 4) 0 = payload.getD k 0 := by
  rw [stamp_eq v (four_le_unsealed_length payload)]
  rfl

theorem field16_stamp_unsealed (k : Nat) : field16 (stamp v (unsealed payload)) (k + 4) = field16 payload k := by
  rw [field16, Nat.add_right_comm, getD_stamp_unsealed, getD_stamp_unsealed, field16]

theorem field32_stamp_unsealed (k : Nat) : field32 (stamp v (unsealed payload)) (k + 4) = field32 payload k := by
  rw [field32, Nat.add_right_comm _ 4 1, Nat.add_right_comm _ 4 2, Nat.add_right_comm _ 4 3, getD_stamp_unsealed,
    getD_stamp_unsealed, getD_stamp_unsealed, getD_stamp_unsealed, field32]

/-- The frame a query sends: its length, and that a receiver accepts it. -/
theorem sealed_unsealed :
    (stamp v (unsealed payload)).length = payload.length + 4 ∧ frameValidates v (stamp v (unsealed payload)) = true :=
  ⟨by rw [stamp_length v (four_le_unsealed_length payload), unsealed_length],
    frameValidates_stamp v (four_le_unsealed_length payload)⟩

theorem beginSend_of_txf_nil {s : State} (p : Params) (f : List Byte) (h : s.txf = []) :
    beginSend p f s = .next { s with frame := stamp p.crc f, seq := .send (.preload 0) } := by
  rw [beginSend_eq, if_pos h]

end Queries

/-- Settles O11: the sealed frame carries `deviceInfoBytes` from offset 4 on. -/
theorem getDeviceInfoBuildsTheFrame : Obligations.GetDeviceInfoBuildsTheFrame := by
  intro s htxf
  obtain ⟨hlen, hvalid⟩ := sealed_unsealed Config.machine.crc (deviceInfoBytes s.deviceInfo)
  have h32 := field32_stamp_unsealed Config.machine.crc (deviceInfoBytes s.deviceInfo)
  have hbyte := getD_stamp_unsealed Config.machine.crc (deviceInfoBytes s.deviceInfo)
  exact ⟨_, beginSend_of_txf_nil _ _ htxf, hlen, hvalid, (h32 0).trans (rd32_le32 _), (h32 4).trans (rd32_le32 _),
    (h32 8).trans (rd32_le32 _), (h32 12).trans (rd32_le32 _), hbyte 16, hbyte 17⟩

/-- Settles O12: the sealed frame carries `transferInfoBytes` from offset 4 on. -/
theorem getTransferInfoBuildsTheFrame : Obligations.GetTransferInfoBuildsTheFrame := by
  intro s htxf
  obtain ⟨hlen, hvalid⟩ := sealed_unsealed Config.machine.crc (transferInfoBytes s.transferResult)
  have h32 := field32_stamp_unsealed Config.machine.crc (transferInfoBytes s.transferResult)
  refine ⟨_, beginSend_of_txf_nil _ _ htxf, hlen, hvalid, (field16_stamp_unsealed _ _ 0).trans (rd16_le16 _),
    (h32 2).trans (rd32_le32 _), (h32 6).trans (rd32_le32 _), (h32 10).trans (rd32_le32 _), ?_⟩
  rw [getD_stamp_unsealed _ _ 14]
  cases hstatus : s.transferResult.status <;> simp [transferInfoBytes, le16, le32, hstatus, CaptureStatus.code]

/-- Settles O13: the sealed frame carries `periodicInfoBytes` from offset 4 on. -/
theorem getPeriodicInterruptInfoBuildsTheFrame : Obligations.GetPeriodicInterruptInfoBuildsTheFrame := by
  intro s htxf
  obtain ⟨hlen, hvalid⟩ := sealed_unsealed Config.machine.crc (periodicInfoBytes s.isrResult)
  have h32 := field32_stamp_unsealed Config.machine.crc (periodicInfoBytes s.isrResult)
  exact ⟨_, beginSend_of_txf_nil _ _ htxf, hlen, hvalid, (h32 0).trans (rd32_le32 _), (h32 4).trans (rd32_le32 _),
    (h32 8).trans (rd32_le32 _), (h32 12).trans (rd32_le32 _), getD_stamp_unsealed _ _ 16⟩

/-! ### The start of a capture (R305, R202) -/

section CaptureStart

variable {s : State} (l m : Byte) (sv rv : Word)

theorem exec_captureNextTransfer_of_free (h : s.link.inflight = false) :
    exec (.captureNextTransfer l m sv rv) s =
      .next { s with
        transferResult := TransferResult.zero
        link := { s.link with mode := configuredMode m s, bits := effBits Config.machine l }
        txf := []
        rxf := []
        cap := { s.cap with bits := effBits Config.machine l, send0 := sv, recv0 := rv }
        draws := if m.toNat ≤ 3 then s.draws else s.draws + 1
        seq := .cap .timerReset } := by
  rw [exec, execCaptureNextTransfer, beginCapture, linkConfigure_of_free (by exact h)]
  rfl

theorem exec_captureNextTransfer_of_inflight (h : s.link.inflight = true) :
    exec (.captureNextTransfer l m sv rv) s = .refused .linkConfigureInFlight := by
  rw [exec, execCaptureNextTransfer, beginCapture, linkConfigure_of_inflight (by exact h)]
  rfl

end CaptureStart

/-- Settles O23: with no word in flight the link is configured; a word in flight refuses. -/
theorem captureStartsTheSession : Obligations.CaptureStartsTheSession := by
  intro s l m sv rv
  refine ⟨fun hfree => ⟨_, _, exec_captureNextTransfer_of_free l m sv rv hfree, fun hle => ⟨?_, if_pos hle⟩,
    fun hlt => if_neg (Nat.not_le.2 hlt)⟩, exec_captureNextTransfer_of_inflight l m sv rv⟩
  rw [configuredMode_of_le hle, BitVec.toNat_ofNat, Nat.mod_eq_of_lt (Nat.lt_succ_of_le hle)]

/-! ### The start of a periodic session (R242, R243, R307) -/

section PeriodicStart

variable {s : State} {f : U32} {d : Word}

/-- What the hardware cannot arm (R242). -/
def Unarmable (f : U32) (d : Word) : Prop :=
  f = 0 ∨ Config.machine.fMeas < f.toNat ∨ 2 ^ 32 ≤ f.toNat * d.toNat

/-- The session's registers before any edge: period (rounded down), total, counts at 0 (R241). -/
def sessionRegs (f : U32) (d : Word) (r : PeriodicRegs) : PeriodicRegs :=
  { r with
    period := BitVec.ofNat 32 (Config.machine.fMeas / f.toNat)
    total := BitVec.ofNat 32 (f.toNat * d.toNat)
    before := 0
    after := 0
    dup := 0 }

theorem exec_start_of_unarmable (h : Unarmable f d) :
    exec (.startPeriodicInterrupts f d) s =
      .next { s with isrResult := { IsrResult.zero with status := 0x01 }, seq := .per .drainEdgeDisable } := by
  rw [exec, execStartPeriodicInterrupts, beginPeriodic, arming_refuse h]
  simp [goTo, raiseAnomaly, IsrResult.zero, Anomaly.bit]

theorem not_unarmable_iff :
    ¬ Unarmable f d ↔ f ≠ 0 ∧ f.toNat ≤ Config.machine.fMeas ∧ f.toNat * d.toNat < 2 ^ 32 := by
  simp [Unarmable]

/-- The total of a session that can be armed is 0 exactly for a duration of 0. -/
theorem total_eq_zero_iff (h : ¬ Unarmable f d) : BitVec.ofNat 32 (f.toNat * d.toNat) = 0 ↔ d = 0 := by
  obtain ⟨hf, -, hlt⟩ := not_unarmable_iff.1 h
  have hf0 : f.toNat ≠ 0 := fun h0 => hf (BitVec.eq_of_toNat_eq h0)
  rw [← BitVec.toNat_inj, BitVec.toNat_ofNat, Nat.mod_eq_of_lt hlt, ← BitVec.toNat_inj]
  simp [hf0]

theorem exec_start_of_duration (h : ¬ Unarmable f d) (hd : d ≠ 0) :
    exec (.startPeriodicInterrupts f d) s =
      .next { s with
        isrResult := IsrResult.zero
        per := { sessionRegs f d s.per with lastAck := BitVec.ofNat 32 (f.toNat * d.toNat) }
        countdown := BitVec.ofNat 32 (f.toNat * d.toNat)
        seq := .per .armTimerReset } := by
  obtain ⟨hf, hle, hlt⟩ := not_unarmable_iff.1 h
  rw [exec, execStartPeriodicInterrupts, beginPeriodic, arming_accept hf hle hlt]
  exact congrArg _ (if_neg ((total_eq_zero_iff h).not.2 hd))

theorem exec_start_of_duration_zero (h : ¬ Unarmable f d) (hd : d = 0) :
    exec (.startPeriodicInterrupts f d) s =
      .next { s with isrResult := IsrResult.zero, per := sessionRegs f d s.per, seq := .per .drainEdgeDisable } := by
  obtain ⟨hf, hle, hlt⟩ := not_unarmable_iff.1 h
  have htotal := (total_eq_zero_iff h).2 hd
  rw [exec, execStartPeriodicInterrupts, beginPeriodic, arming_accept hf hle hlt]
  simp only [if_pos htotal]
  simp [tally, loadSession, sessionRegs, IsrResult.zero, htotal]

end PeriodicStart

/-- Settles O31: the three conditions are those on which the arming arithmetic refuses. -/
theorem startPeriodicRefusesWhatCannotBeArmed : Obligations.StartPeriodicRefusesWhatCannotBeArmed :=
  fun _ _ _ => exec_start_of_unarmable

/-- Settles O32: the two registers hold the quotient and the product without wrapping, and a total of 0 completes at once. -/
theorem startPeriodicLoadsTheSession : Obligations.StartPeriodicLoadsTheSession := by
  intro s f d hf hle hlt
  have harm : ¬ Unarmable f d := not_unarmable_iff.2 ⟨hf, hle, hlt⟩
  have hmeas : Config.machine.fMeas < 2 ^ 32 := ((params_wf_iff _).1 machine_wf).1.2
  have hdiv : Config.machine.fMeas / f.toNat < 2 ^ 32 := (Nat.div_le_self _ _).trans_lt hmeas
  exact ⟨_, _, (BitVec.toNat_ofNat ..).trans (Nat.mod_eq_of_lt hdiv), (BitVec.toNat_ofNat ..).trans (Nat.mod_eq_of_lt hlt),
    exec_start_of_duration harm, exec_start_of_duration_zero harm⟩

/-! ### What a dispatched command can do -/

/-- The states a command can leave when it is executed at the dispatcher, one constructor for each way its own pseudocode goes up
to its first primitive; `exec_dispatched` ties it to `exec`. -/
inductive Dispatched (s : State) : State → Prop
  /-- A query with `TXF` empty (R162). -/
  | sends (f : List Byte) (hlen : 4 ≤ f.length) (htxf : s.txf = []) :
    Dispatched s { s with frame := f, seq := .send (.preload 0) }
  /-- A query with a word left in `TXF` (R163). -/
  | abandons (f : List Byte) : Dispatched s { s with frame := f, log := s.log ++ [.sendTxNotEmpty], seq := .idle }
  /-- `CaptureNextTransfer` with no word in flight (R202). -/
  | captures (l : Byte) (mode : BitVec 2) (sv rv : Word) (d : Nat) (hfree : s.link.inflight = false) :
    Dispatched s { s with
      transferResult := TransferResult.zero
      link := { s.link with mode := mode, bits := effBits Config.machine l }
      txf := []
      rxf := []
      cap := { s.cap with bits := effBits Config.machine l, send0 := sv, recv0 := rv }
      draws := d
      seq := .cap .timerReset }
  /-- `StartPeriodicInterrupts` that the hardware cannot represent (R242). -/
  | overflows :
    Dispatched s { s with isrResult := { IsrResult.zero with status := 0x01 }, seq := .per .drainEdgeDisable }
  /-- `StartPeriodicInterrupts` with no edge to make (R243). -/
  | completes (regs : PeriodicRegs) :
    Dispatched s { s with isrResult := IsrResult.zero, per := regs, seq := .per .drainEdgeDisable }
  /-- `StartPeriodicInterrupts` that arms (R244). -/
  | arms (regs : PeriodicRegs) (total : U32) (htotal : total ≠ 0) :
    Dispatched s { s with
      isrResult := IsrResult.zero
      per := { regs with lastAck := total }
      countdown := total
      seq := .per .armTimerReset }
  /-- `AcknowledgeInterrupt` outside a session (R122). -/
  | ignores : Dispatched s { s with seq := .idle }

theorem beginSend_dispatched {s t : State} {payload : List Byte}
    (h : beginSend Config.machine (unsealed payload) s = .next t) : Dispatched s t := by
  rw [beginSend_eq, Host.Outcome.next.injEq] at h
  subst h
  split
  · exact .sends _ (stamp_length_ge _ _) ‹_›
  · exact .abandons _

/-- Every command, executed at the dispatcher, ends in one of those states or is refused. -/
theorem exec_dispatched {i : Instr} {s t : State} (hq : s.seq = .dispatch) (h : exec i s = .next t) :
    Dispatched s t := by
  cases i with
  | getDeviceInfo => exact beginSend_dispatched h
  | getTransferInfo => exact beginSend_dispatched h
  | getPeriodicInterruptInfo => exact beginSend_dispatched h
  | captureNextTransfer l m sv rv =>
    cases hfree : s.link.inflight
    · rw [exec_captureNextTransfer_of_free l m sv rv hfree] at h
      obtain rfl := Host.Outcome.next.inj h
      exact .captures l _ sv rv _ hfree
    · rw [exec_captureNextTransfer_of_inflight l m sv rv hfree] at h
      cases h
  | startPeriodicInterrupts f d =>
    by_cases harm : Unarmable f d
    · rw [exec_start_of_unarmable harm] at h
      obtain rfl := Host.Outcome.next.inj h
      exact .overflows
    by_cases hd : d = 0
    · rw [exec_start_of_duration_zero harm hd] at h
      obtain rfl := Host.Outcome.next.inj h
      exact .completes _
    · rw [exec_start_of_duration harm hd] at h
      obtain rfl := Host.Outcome.next.inj h
      exact .arms _ _ ((total_eq_zero_iff harm).not.2 hd)
  | acknowledgeInterrupt =>
    rw [exec_acknowledgeInterrupt_of_ne_classify (by simp [hq])] at h
    obtain rfl := Host.Outcome.next.inj h
    exact .ignores

/-! ### Which command a step executes (R301, R256, R258) -/

/-- Settles O5: the step at the dispatcher is `dispatchStep`, on the tape's turn as on the resting one. -/
theorem stepRunsTheDecodedCommand : Obligations.StepRunsTheDecodedCommand := by
  intro s i rest hd _
  refine ⟨fun h => ?_, fun hq htape hidle hirq => ?_⟩
  · have hq : (spent 1 s).seq = .dispatch := h.1
    have hd' : decodeWith (spent 1 s).opcodes (spent 1 s).cmd.toList = .command i rest := hd
    rw [step_main h, mainFlow, hq]
    simp only [dispatchStep, hd']
  · have hmove : restingMove s = .main := by simp [restingMove, hidle, hirq, hq]
    rw [step_nil htape, hmove]
    simp only [turn, mainTurn, hidle, mainFlow, hq, dispatchStep, hd, if_pos]

/-- The drain that `NotAcknowledged` or a negative difference began, at its end. -/
theorem step_drain_end {s : State} {r : DrainRet} (h : MainFor 1 (.drain r (.rx false)) s) (hrxf : s.rxf = []) :
    step s = .next (afterDrain r (spent 1 s)) := by
  have hempty : rxNotEmpty (spent 1 s) ≠ true := by simpa [spent] using hrxf
  rw [step_drain h, drainStep, if_neg hempty]
  rfl

/-- Settles O6: the byte popped at AwaitAck is compared with the acknowledge opcode alone, and a command's meaning asks for
Classify. -/
theorem sessionDecodesTheFirstByteAlone : Obligations.SessionDecodesTheFirstByteAlone := by
  refine ⟨fun s w ws h hrxf => ?_, fun s h => ?_, fun s h hrxf => step_drain_end h hrxf,
    fun s hq => exec_acknowledgeInterrupt_of_ne_classify hq⟩
  · have hpop : (spent 1 s).rxf = w :: ws := hrxf
    rw [step_periodic h (by decide), periodicStep, rxPop_of_cons hpop]
    simp [afterFirstByte, isAcknowledge, goTo, spent]
  · have hq : (spent 1 s).seq = .per .classify := h.1
    rw [step_main h, mainFlow, hq]
    exact if_pos rfl

end Sys2Proof.Machine

namespace Sys2Proof.Machine

open Sys2Proof.Safety

/-! ### What a turn can write

One lemma for each operation of the main flow and each other agent: the next state is the old one but for the fields named. -/

section Frames

variable {s t : State}

theorem onNext_txPush_next {w : Word} {f : State → State} (h : onNext (txPush w s) f = .next t) :
    s.txf.length < 8 ∧ t = f { s with txf := s.txf ++ [w &&& mask s.link.bits] } := by
  obtain ⟨u, hu, rfl⟩ := onNext_next_iff.1 h
  obtain ⟨hroom, rfl⟩ := txPush_next hu
  exact ⟨hroom, rfl⟩

theorem initStep_frame {p : Params} {pt : InitPt} (h : initStep p pt s = .next t) :
    t = { s with
      deviceInfo := t.deviceInfo, transferResult := t.transferResult, isrResult := t.isrResult, link := t.link,
      txf := t.txf, rxf := t.rxf, timer := t.timer, edge := t.edge, pinFunc := t.pinFunc, ind := t.ind,
      imask := t.imask, draws := t.draws, seq := t.seq } := by
  cases pt
  case link =>
    obtain ⟨u, hu, rfl⟩ := onNext_next_iff.1 h
    obtain ⟨-, rfl⟩ := linkConfigure_next hu
    rfl
  all_goals
    obtain rfl := Host.Outcome.next.inj h
    rfl

theorem recvStep_frame {pt : RecvPt} (h : recvStep pt s = .next t) :
    t = { s with cmd := t.cmd, rxf := t.rxf, seq := t.seq } := by
  cases pt
  case pop i =>
    rw [recvStep] at h
    obtain ⟨v, vs, -, rfl⟩ := rxPop_next h
    rfl
  all_goals
    obtain rfl := Host.Outcome.next.inj h
    rfl

theorem drainStep_frame {r : DrainRet} {pt : DrainPt} (h : drainStep r pt s = .next t) :
    t = { s with rxf := t.rxf, isrResult := t.isrResult, seq := t.seq } := by
  cases pt
  case pop =>
    obtain ⟨v, vs, -, rfl⟩ := rxPop_next h
    rfl
  case rx cs =>
    obtain rfl := Host.Outcome.next.inj h
    split_ifs
    · rfl
    · rfl
    · cases r <;> rfl
  case cs =>
    obtain rfl := Host.Outcome.next.inj h
    rfl

theorem sendStep_frame {pt : SendPt} (h : sendStep pt s = .next t) :
    t = { s with txf := t.txf, imask := t.imask, log := t.log, seq := t.seq } := by
  cases pt
  case preload i | push i =>
    obtain ⟨-, rfl⟩ := onNext_txPush_next h
    rfl
  case underrun i =>
    obtain rfl := Host.Outcome.next.inj h
    split_ifs <;> rfl
  all_goals
    obtain rfl := Host.Outcome.next.inj h
    rfl

theorem endExchange_frame (p : Params) (s : State) :
    endExchange p s = { s with
      cap := (endExchange p s).cap, transferResult := (endExchange p s).transferResult,
      draws := (endExchange p s).draws, seq := (endExchange p s).seq } := by
  rw [endExchange]
  split <;> rfl

theorem captureStep_frame {p : Params} {pt : CapPt} (h : captureStep p pt s = .next t) :
    t = { s with
      transferResult := t.transferResult, cap := t.cap, txf := t.txf, rxf := t.rxf, link := t.link,
      timer := t.timer, draws := t.draws, seq := t.seq } := by
  cases pt
  case preload k | push =>
    obtain ⟨-, rfl⟩ := onNext_txPush_next h
    rfl
  case pop =>
    rw [captureStep] at h
    obtain ⟨v, vs, -, rfl⟩ := rxPop_next h
    rfl
  case exitLink =>
    obtain ⟨u, hu, rfl⟩ := onNext_next_iff.1 h
    obtain ⟨-, rfl⟩ := linkConfigure_next hu
    rfl
  case poll k | overflowTest cap2 =>
    obtain rfl := Host.Outcome.next.inj h
    split_ifs <;> rfl
  case rx cs =>
    obtain rfl := Host.Outcome.next.inj h
    split_ifs
    · rfl
    · rfl
    · rw [endExchange_frame]
  all_goals
    obtain rfl := Host.Outcome.next.inj h
    rfl

theorem acknowledge_frame (p : Params) (s : State) :
    acknowledge p s = { s with
      per := (acknowledge p s).per, reply := (acknowledge p s).reply, seq := (acknowledge p s).seq } := by
  rw [acknowledge]
  split <;> rfl

theorem periodicStep_frame {p : Params} {pt : PerPt} (h : periodicStep p pt s = .next t) :
    t = { s with
      isrResult := t.isrResult, reply := t.reply, per := t.per, txf := t.txf, rxf := t.rxf, timer := t.timer,
      edge := t.edge, imask := t.imask, pinFunc := t.pinFunc, ind := t.ind, seq := t.seq } := by
  cases pt
  case fill k | respondPush k =>
    obtain ⟨-, rfl⟩ := onNext_txPush_next h
    rfl
  case awaitPop =>
    rw [periodicStep] at h
    obtain ⟨v, vs, -, rfl⟩ := rxPop_next h
    rfl
  case classify =>
    obtain rfl := Host.Outcome.next.inj h
    rw [acknowledge_frame]
  case loopTest | awaitRx _ | respondCs _ | respondEmpty _ =>
    obtain rfl := Host.Outcome.next.inj h
    split_ifs <;> rfl
  all_goals
    obtain rfl := Host.Outcome.next.inj h
    rfl

theorem handlerStep_frame (s : State) :
    handlerStep s = { s with
      handler := (handlerStep s).handler, countdown := (handlerStep s).countdown,
      timer := { s.timer with
        perEn := (handlerStep s).timer.perEn, irqEn := (handlerStep s).timer.irqEn,
        irqPend := (handlerStep s).timer.irqPend } } := by
  rw [handlerStep]
  split
  · split_ifs <;> rfl
  · rw [handlerDecrement]
    split_ifs <;> rfl
  · rfl
  · rfl

theorem tickStep_frame (s : State) :
    tickStep s = { s with
      timer := { s.timer with
        cnt := (tickStep s).timer.cnt, en := (tickStep s).timer.en, emo := (tickStep s).timer.emo,
        irqPend := (tickStep s).timer.irqPend } } := by
  rw [tickStep]
  split_ifs
  · rw [tickTimer]
    split_ifs <;> rfl
  · rfl

end Frames

end Sys2Proof.Machine

namespace Sys2Proof.Machine

open Sys2Proof.Safety

/-! ### The controller's turns (R80 to R85) -/

/-- The controller's five turns, as one relation. -/
inductive ControllerTurn (s : State) : State → Prop
  | wordStart : ControllerTurn s (wordStart s)
  | sckFall : ControllerTurn s (sckFall s)
  | wordEnd (c : Word) : ControllerTurn s (wordEnd c s)
  | csAssert : ControllerTurn s (csAssert s)
  | csDeassert : ControllerTurn s (csDeassert s)

/-- The controller reaches only chip-select, the FIFOs, the link's shift state, the capture register, the edge status and the
count of free values. -/
theorem ControllerTurn.frame {s t : State} (h : ControllerTurn s t) :
    t = { s with
      cs := t.cs, txf := t.txf, rxf := t.rxf, draws := t.draws
      link := { s.link with inflight := t.link.inflight, falls := t.link.falls, out := t.link.out }
      timer := { s.timer with cap := t.timer.cap }, edge := { s.edge with status := t.edge.status } } := by
  cases h with
  | wordStart =>
    rw [Machine.wordStart]
    split_ifs
    · split <;> rfl
    · rfl
  | sckFall =>
    rw [Machine.sckFall]
    split_ifs
    · rw [captureLatch_eq, edgeDetect_eq]
    · rfl
  | wordEnd c =>
    rw [Machine.wordEnd]
    split_ifs <;> rfl
  | csAssert =>
    rw [Machine.csAssert]
    split_ifs <;> rfl
  | csDeassert =>
    rw [Machine.csDeassert]
    split_ifs <;> rfl

/-- Settles O54: each of the five turns stays within the controller's reach. -/
theorem controllerReachesOnlyTheLink : Obligations.ControllerReachesOnlyTheLink := by
  intro s t m rest htape hm h
  rw [step_cons htape] at h
  have hturn : ControllerTurn { s with tape := rest } t := by
    obtain rfl | rfl | ⟨c, rfl⟩ | rfl | rfl := hm <;> obtain rfl := Host.Outcome.next.inj h
    exacts [.wordStart, .sckFall, .wordEnd c, .csAssert, .csDeassert]
  exact hturn.frame

/-! ### Every turn, by the agent that takes it

`turn_cases` with the commands by what they leave (`Dispatched`) and the controller's turns as one case. -/

section Agents

variable {s t : State}

/-- To show a relation between the states before and after every turn, show it for each family of positions of the main flow and
for each other agent. -/
theorem turn_relates {P : State → State → Prop}
    (init : ∀ pt (s t : State), s.seq = .init pt → s.handler = .notRunning →
      initStep Config.machine pt s = .next t → P s t)
    (recv : ∀ pt (s t : State), s.seq = .recv pt → s.handler = .notRunning → recvStep pt s = .next t → P s t)
    (drain : ∀ r pt (s t : State), s.seq = .drain r pt → s.handler = .notRunning → drainStep r pt s = .next t → P s t)
    (command : ∀ s t : State, s.seq = .dispatch → s.handler = .notRunning → Dispatched s t → P s t)
    (send : ∀ pt (s t : State), s.seq = .send pt → s.handler = .notRunning → sendStep pt s = .next t → P s t)
    (cap : ∀ pt (s t : State), s.seq = .cap pt → s.handler = .notRunning →
      captureStep Config.machine pt s = .next t → P s t)
    (per : ∀ pt (s t : State), s.seq = .per pt → s.handler = .notRunning →
      periodicStep Config.machine pt s = .next t → P s t)
    (nothing : ∀ s : State, P s s)
    (handler : ∀ s : State, P s (handlerStep s)) (tick : ∀ s : State, P s (tickStep s))
    (controller : ∀ s t : State, ControllerTurn s t → P s t)
    (callInit : ∀ s : State, s.seq = .reset → s.handler = .notRunning → P s (goTo (.init .link) s))
    (callPoll : ∀ s : State, s.seq = .idle → s.handler = .notRunning → P s (goTo (.recv .entry) s))
    (m : Move) (s t : State) (h : turn m s = .next t) : P s t :=
  turn_cases init recv drain (fun _ s t hq hh h => command s t hq hh (exec_dispatched hq h))
    (fun s hq hh => command s _ hq hh .ignores) send cap per nothing handler tick
    (fun s => controller s _ .wordStart) (fun s => controller s _ .sckFall) (fun c s => controller s _ (.wordEnd c))
    (fun s => controller s _ .csAssert) (fun s => controller s _ .csDeassert)
    (fun s hh hq => callInit s hq hh) (fun s hh hq => callPoll s hq hh) m s t h

/-- A relation that every turn has and that does not look at the tape before it is one that every step has. -/
theorem step_relates {P : State → State → Prop} (htape : ∀ s t l, P { s with tape := l } t → P s t)
    (hturn : ∀ m s t, turn m s = .next t → P s t) (h : step s = .next t) : P s t := by
  obtain ⟨-, h⟩ | ⟨m, rest, -, h⟩ := step_cases h
  · exact hturn _ _ _ h
  · exact htape _ _ _ (hturn _ _ _ h)

/-- To show that every step keeps an invariant that does not look at the tape, show it for each family of positions of the main
flow, with the position written into the state before, and for each other agent. -/
theorem step_keeps_at {I : State → Prop} (htape : ∀ s l, I s → I { s with tape := l })
    (init : ∀ pt (s t : State), s.handler = .notRunning → I (goTo (.init pt) s) →
      initStep Config.machine pt s = .next t → I t)
    (recv : ∀ pt (s t : State), s.handler = .notRunning → I (goTo (.recv pt) s) → recvStep pt s = .next t → I t)
    (drain : ∀ r pt (s t : State), s.handler = .notRunning → I (goTo (.drain r pt) s) →
      drainStep r pt s = .next t → I t)
    (command : ∀ s t : State, s.handler = .notRunning → I (goTo .dispatch s) → Dispatched s t → I t)
    (send : ∀ pt (s t : State), s.handler = .notRunning → I (goTo (.send pt) s) → sendStep pt s = .next t → I t)
    (cap : ∀ pt (s t : State), s.handler = .notRunning → I (goTo (.cap pt) s) →
      captureStep Config.machine pt s = .next t → I t)
    (per : ∀ pt (s t : State), s.handler = .notRunning → I (goTo (.per pt) s) →
      periodicStep Config.machine pt s = .next t → I t)
    (handler : ∀ s : State, I s → I (handlerStep s)) (tick : ∀ s : State, I s → I (tickStep s))
    (controller : ∀ s t : State, ControllerTurn s t → I s → I t)
    (callInit : ∀ s : State, s.handler = .notRunning → I (goTo .reset s) → I (goTo (.init .link) s))
    (callPoll : ∀ s : State, s.handler = .notRunning → I (goTo .idle s) → I (goTo (.recv .entry) s))
    (hs : I s) (h : step s = .next t) : I t := by
  have hat {u : State} {q : Seq} (hq : u.seq = q) (hu : I u) : I (goTo q u) := by rwa [goTo_of_seq_eq hq]
  refine step_keeps htape (fun m s t hs h => ?_) hs h
  exact turn_relates (P := fun s t => I s → I t)
    (fun pt s t hq hh h hs => init pt s t hh (hat hq hs) h) (fun pt s t hq hh h hs => recv pt s t hh (hat hq hs) h)
    (fun r pt s t hq hh h hs => drain r pt s t hh (hat hq hs) h) (fun s t hq hh h hs => command s t hh (hat hq hs) h)
    (fun pt s t hq hh h hs => send pt s t hh (hat hq hs) h) (fun pt s t hq hh h hs => cap pt s t hh (hat hq hs) h)
    (fun pt s t hq hh h hs => per pt s t hh (hat hq hs) h) (fun _ hs => hs) handler tick controller
    (fun s hq hh hs => callInit s hh (hat hq hs)) (fun s hq hh hs => callPoll s hh (hat hq hs)) m s t h hs

end Agents

/-! ### Who writes the position, the device information and the countdown (R22, R25, R89 to R91) -/

section Writers

variable {s t : State}

/-- While the handler runs the main flow takes no step (R89). -/
theorem mainTurn_of_handler (h : s.handler ≠ .notRunning) : mainTurn s = .next s := if_neg h

/-- A turn of neither the main flow nor the host is the handler's, the timer's or the controller's. -/
theorem turn_of_other {m : Move} (hmain : m ≠ .main) (hinit : m ≠ .callInit) (hpoll : m ≠ .callPoll)
    (h : turn m s = .next t) : (m = .handler ∧ t = handlerStep s) ∨ t = tickStep s ∨ ControllerTurn s t := by
  cases m <;> simp only [turn, Host.Outcome.next.injEq, ne_eq, not_true_eq_false] at h hmain hinit hpoll <;> subst h
  case handler => exact .inl ⟨rfl, rfl⟩
  case tick => exact .inr (.inl rfl)
  case wordStart => exact .inr (.inr .wordStart)
  case sckFall => exact .inr (.inr .sckFall)
  case wordEnd c => exact .inr (.inr (.wordEnd c))
  case csAssert => exact .inr (.inr .csAssert)
  case csDeassert => exact .inr (.inr .csDeassert)

/-- Every turn but the first of `Init()` leaves `DEVICE_INFO`, and every turn the opcodes (R22, R49). -/
theorem turn_deviceInfo (m : Move) (s t : State) (h : turn m s = .next t) :
    (s.seq ≠ .init .link → t.deviceInfo = s.deviceInfo) ∧ t.opcodes = s.opcodes := by
  refine turn_relates (P := fun s t => (s.seq ≠ .init .link → t.deviceInfo = s.deviceInfo) ∧ t.opcodes = s.opcodes)
    (fun pt s t hq _ h => ⟨fun hne => ?init, by rw [initStep_frame h]⟩) (fun pt s t _ _ h => ?recv)
    (fun r pt s t _ _ h => ?drain) (fun s t _ _ h => ?command) (fun pt s t _ _ h => ?send) (fun pt s t _ _ h => ?cap)
    (fun pt s t _ _ h => ?per) (fun s => ⟨fun _ => rfl, rfl⟩) (fun s => ?handler) (fun s => ?tick)
    (fun s t h => ?controller) (fun s _ _ => ⟨fun _ => rfl, rfl⟩) (fun s _ _ => ⟨fun _ => rfl, rfl⟩) m s t h
  case init =>
    cases pt
    case link => exact absurd hq hne
    all_goals
      obtain rfl := Host.Outcome.next.inj h
      rfl
  case recv => rw [recvStep_frame h]; exact ⟨fun _ => rfl, rfl⟩
  case drain => rw [drainStep_frame h]; exact ⟨fun _ => rfl, rfl⟩
  case command => cases h <;> exact ⟨fun _ => rfl, rfl⟩
  case send => rw [sendStep_frame h]; exact ⟨fun _ => rfl, rfl⟩
  case cap => rw [captureStep_frame h]; exact ⟨fun _ => rfl, rfl⟩
  case per => rw [periodicStep_frame h]; exact ⟨fun _ => rfl, rfl⟩
  case handler => rw [handlerStep_frame]; exact ⟨fun _ => rfl, rfl⟩
  case tick => rw [tickStep_frame]; exact ⟨fun _ => rfl, rfl⟩
  case controller => rw [h.frame]; exact ⟨fun _ => rfl, rfl⟩

/-- A handler that is not running only starts, which counts nothing yet (R346). -/
theorem handlerStep_of_notRunning (h : s.handler = .notRunning) :
    handlerStep s = if handlerMayStart s then enterHandler s else s := by
  rw [handlerStep, h]

/-- With the handler not running `COUNTDOWN` is written at a dispatch alone. -/
theorem turn_countdown_of_notRunning (m : Move) (s t : State) (h : turn m s = .next t) :
    s.handler = .notRunning → s.seq ≠ .dispatch → t.countdown = s.countdown := by
  refine turn_relates (P := fun s t => s.handler = .notRunning → s.seq ≠ .dispatch → t.countdown = s.countdown)
    (fun pt s t _ _ h _ _ => by rw [initStep_frame h]) (fun pt s t _ _ h _ _ => by rw [recvStep_frame h])
    (fun r pt s t _ _ h _ _ => by rw [drainStep_frame h]) (fun s t hq _ _ _ hne => absurd hq hne)
    (fun pt s t _ _ h _ _ => by rw [sendStep_frame h]) (fun pt s t _ _ h _ _ => by rw [captureStep_frame h])
    (fun pt s t _ _ h _ _ => by rw [periodicStep_frame h]) (fun s _ _ => rfl) (fun s hh _ => ?handler)
    (fun s _ _ => by rw [tickStep_frame]) (fun s t h _ _ => by rw [h.frame]) (fun s _ _ _ _ => rfl)
    (fun s _ _ _ _ => rfl) m s t h
  case handler =>
    rw [handlerStep_of_notRunning hh]
    split_ifs <;> rfl

/-- While the handler runs, a turn that is not its own leaves `COUNTDOWN`: the host's calls are refused, the main flow waits. -/
theorem turn_countdown_of_running {m : Move} (hm : m ≠ .handler) (hrun : s.handler ≠ .notRunning)
    (h : turn m s = .next t) : t.countdown = s.countdown := by
  cases m with
  | main => rw [turn, mainTurn_of_handler hrun] at h; obtain rfl := Host.Outcome.next.inj h; rfl
  | callInit => rw [turn, hostInit, if_pos hrun] at h; cases h
  | callPoll => rw [turn, hostPoll, if_pos hrun] at h; cases h
  | _ =>
    obtain ⟨heq, -⟩ | rfl | hctl := turn_of_other (by simp) (by simp) (by simp) h
    · exact absurd heq hm
    · rw [tickStep_frame]
    · rw [hctl.frame]

/-- Of the commands only `StartPeriodicInterrupts` writes `COUNTDOWN` (R244). -/
theorem exec_countdown {i : Instr} (hi : ∀ f d, i ≠ .startPeriodicInterrupts f d) (h : exec i s = .next t) :
    t.countdown = s.countdown := by
  have hsend {p : Params} {f : List Byte} (h : beginSend p f s = .next t) : t.countdown = s.countdown := by
    rw [beginSend_eq] at h
    obtain rfl := Host.Outcome.next.inj h
    split <;> rfl
  cases i with
  | getDeviceInfo => exact hsend h
  | getTransferInfo => exact hsend h
  | getPeriodicInterruptInfo => exact hsend h
  | captureNextTransfer l m sv rv =>
    obtain ⟨u, hu, rfl⟩ := onNext_next_iff.1 h
    rw [(linkConfigure_next hu).2]
  | startPeriodicInterrupts f d => exact absurd rfl (hi f d)
  | acknowledgeInterrupt =>
    by_cases hq : s.seq = .per .classify
    · rw [exec_acknowledgeInterrupt_of_classify hq] at h
      obtain rfl := Host.Outcome.next.inj h
      rw [acknowledge_frame]
    · rw [exec_acknowledgeInterrupt_of_ne_classify hq] at h
      obtain rfl := Host.Outcome.next.inj h
      rfl

end Writers

/-- Settles O51: a turn's rule, which does not look at the tape. -/
theorem deviceInfoIsWrittenByInitOnly : Obligations.DeviceInfoIsWrittenByInitOnly :=
  fun _ _ => step_relates (fun _ _ _ h => h) turn_deviceInfo

/-- Settles O52: the handler, the timer and the controller have no write of `SEQ`. -/
theorem onlyTheMainFlowMovesTheSequencer : Obligations.OnlyTheMainFlowMovesTheSequencer := by
  refine ⟨fun s t m rest htape hmain hinit hpoll h => ?_, fun s rest htape hrun => ?_⟩
  · rw [step_cons htape] at h
    obtain ⟨-, rfl⟩ | rfl | hctl := turn_of_other hmain hinit hpoll h
    · rw [handlerStep_frame]
    · rw [tickStep_frame]
    · rw [hctl.frame]
  · rw [step_cons htape]
    exact mainTurn_of_handler hrun

/-- Settles O53: with the handler at rest no turn but a dispatch writes `COUNTDOWN`; while it runs, its own turns do. -/
theorem maskedRegionKeepsTheCountdown : Obligations.MaskedRegionKeepsTheCountdown := by
  refine ⟨fun s t _ hidle hq h => ?_, fun s t m rest htape hm hq h => ?_, fun s t i => exec_countdown⟩
  · exact step_relates (fun _ _ _ h => h) turn_countdown_of_notRunning h hidle hq
  · rw [step_cons htape] at h
    by_cases hidle : s.handler = .notRunning
    · exact turn_countdown_of_notRunning m { s with tape := rest } t h hidle hq
    · exact turn_countdown_of_running (s := { s with tape := rest }) hm hidle h

end Sys2Proof.Machine

namespace Sys2Proof.Machine

open Sys2Proof.Safety

/-! ### Where a turn of the main flow leads -/

section Leads

variable {s t : State}

theorem initStep_leads {p : Params} {pt : InitPt} (h : initStep p pt s = .next t) :
    (∃ pt', t.seq = .init pt') ∨ t.seq = .idle := by
  cases pt
  case link =>
    obtain ⟨u, -, rfl⟩ := onNext_next_iff.1 h
    exact .inl ⟨_, rfl⟩
  case unmask =>
    obtain rfl := Host.Outcome.next.inj h
    exact .inr rfl
  all_goals
    obtain rfl := Host.Outcome.next.inj h
    exact .inl ⟨_, rfl⟩

theorem recvStep_leads {pt : RecvPt} (h : recvStep pt s = .next t) :
    (∃ pt', t.seq = .recv pt') ∨ t.seq = .idle ∨ t.seq = .drain .received .cs := by
  cases pt with
  | entry | rx i cs =>
    obtain rfl := Host.Outcome.next.inj h
    rw [goTo_seq]
    split_ifs <;> simp
  | cs i =>
    obtain rfl := Host.Outcome.next.inj h
    exact .inl ⟨_, rfl⟩
  | pop i =>
    rw [recvStep] at h
    obtain ⟨v, vs, -, rfl⟩ := rxPop_next h
    dsimp only [afterByte]
    split_ifs <;> simp

theorem drainStep_leads {r : DrainRet} {pt : DrainPt} (h : drainStep r pt s = .next t) :
    (∃ pt', t.seq = .drain r pt' ∧ t.isrResult = s.isrResult) ∨ t = afterDrain r s := by
  cases pt with
  | cs =>
    obtain rfl := Host.Outcome.next.inj h
    exact .inl ⟨_, rfl, rfl⟩
  | rx cs =>
    obtain rfl := Host.Outcome.next.inj h
    split_ifs
    · exact .inl ⟨_, rfl, rfl⟩
    · exact .inl ⟨_, rfl, rfl⟩
    · exact .inr rfl
  | pop =>
    obtain ⟨v, vs, -, rfl⟩ := rxPop_next h
    exact .inl ⟨_, rfl, rfl⟩

theorem sendLoop_leads (f : List Byte) (i : Nat) : ∃ pt, sendLoop f i = .send pt := by
  rw [sendLoop]
  split_ifs <;> exact ⟨_, rfl⟩

theorem sendStep_leads {pt : SendPt} (h : sendStep pt s = .next t) :
    (∃ pt', t.seq = .send pt') ∨ t.seq = .drain .sent .cs := by
  cases pt with
  | preload i =>
    obtain ⟨-, rfl⟩ := onNext_txPush_next h
    dsimp only [goTo_seq, afterPreload]
    split_ifs <;> exact .inl ⟨_, rfl⟩
  | waitCs | cs i | space i =>
    obtain rfl := Host.Outcome.next.inj h
    rw [goTo_seq]
    split_ifs <;> exact .inl ⟨_, rfl⟩
  | mask =>
    obtain rfl := Host.Outcome.next.inj h
    exact .inl (sendLoop_leads _ _)
  | underrun i =>
    obtain rfl := Host.Outcome.next.inj h
    exact .inl ⟨_, rfl⟩
  | push i =>
    obtain ⟨-, rfl⟩ := onNext_txPush_next h
    exact .inl (sendLoop_leads _ _)
  | unmask =>
    obtain rfl := Host.Outcome.next.inj h
    exact .inr rfl

theorem endExchange_leads (p : Params) (s : State) : ∃ pt, (endExchange p s).seq = .cap pt := by
  rw [endExchange]
  split <;> exact ⟨_, rfl⟩

theorem captureStep_leads {p : Params} {pt : CapPt} (h : captureStep p pt s = .next t) :
    (∃ pt', t.seq = .cap pt') ∨ t.seq = .idle := by
  cases pt with
  | preload k =>
    obtain ⟨-, rfl⟩ := onNext_txPush_next h
    dsimp only [goTo_seq]
    split_ifs <;> exact .inl ⟨_, rfl⟩
  | push =>
    obtain ⟨-, rfl⟩ := onNext_txPush_next h
    exact .inl ⟨_, rfl⟩
  | pop =>
    rw [captureStep] at h
    obtain ⟨v, vs, -, rfl⟩ := rxPop_next h
    exact .inl ⟨_, rfl⟩
  | exitLink =>
    obtain ⟨u, -, rfl⟩ := onNext_next_iff.1 h
    exact .inr rfl
  | rx cs =>
    obtain rfl := Host.Outcome.next.inj h
    split_ifs
    · exact .inl ⟨_, rfl⟩
    · exact .inl ⟨_, rfl⟩
    · exact .inl (endExchange_leads p s)
  | poll k | overflowTest cap2 =>
    obtain rfl := Host.Outcome.next.inj h
    split_ifs <;> exact .inl ⟨_, rfl⟩
  | waitCs | pollRx cs | space =>
    obtain rfl := Host.Outcome.next.inj h
    rw [goTo_seq]
    split_ifs <;> exact .inl ⟨_, rfl⟩
  | _ =>
    obtain rfl := Host.Outcome.next.inj h
    exact .inl ⟨_, rfl⟩

theorem afterFirstByte_leads (o : Opcodes) (b : Byte) :
    afterFirstByte o b = .per .classify ∨ afterFirstByte o b = .drain .notAcknowledged .cs := by
  rw [afterFirstByte]
  split_ifs <;> simp

theorem acknowledge_leads (p : Params) (s : State) :
    (acknowledge p s).seq = .per (.respondCs 0) ∨ (acknowledge p s).seq = .drain .differenceNegative .cs := by
  rw [acknowledge]
  split <;> simp

theorem periodicStep_leads {p : Params} {pt : PerPt} (h : periodicStep p pt s = .next t) :
    (∃ pt', t.seq = .per pt') ∨ (∃ r, t.seq = .drain r .cs) ∨ t.seq = .idle := by
  cases pt with
  | loopTest | awaitRx cs | respondCs i | respondEmpty i =>
    obtain rfl := Host.Outcome.next.inj h
    split_ifs <;> simp
  | fill k | respondPush k =>
    obtain ⟨-, rfl⟩ := onNext_txPush_next h
    rw [goTo_seq]
    split_ifs <;> simp
  | waitEdge | respondSpace i | unmask abort =>
    obtain rfl := Host.Outcome.next.inj h
    rw [goTo_seq]
    split_ifs <;> simp
  | awaitPop =>
    rw [periodicStep] at h
    obtain ⟨v, vs, -, rfl⟩ := rxPop_next h
    obtain hq | hq := afterFirstByte_leads s.opcodes (v.setWidth 8) <;> simp [hq]
  | classify =>
    obtain rfl := Host.Outcome.next.inj h
    obtain hq | hq := acknowledge_leads p s <;> simp [hq]
  | drainIndicator =>
    obtain rfl := Host.Outcome.next.inj h
    exact .inr (.inr rfl)
  | _ =>
    obtain rfl := Host.Outcome.next.inj h
    exact .inl ⟨_, rfl⟩

end Leads

end Sys2Proof.Machine

namespace Sys2Proof.Safety

open Sys2Proof.Machine

/-! ### At most one flag, and zero counts beside it (R271, R286) -/

section Result

variable {s t : State}

/-- A result that is all zero. -/
theorem ResultInv.of_zero (h : t.isrResult = IsrResult.zero) : ResultInv t :=
  ⟨.inl (by rw [h]; rfl), fun _ => h⟩

/-- A result that was left alone, at a position no earlier in the session. -/
theorem ResultInv.of_same (hs : ResultInv s) (h : t.isrResult = s.isrResult)
    (hq : Safety.clean t.seq = true → Safety.clean s.seq = true) : ResultInv t :=
  ⟨by rw [h]; exact hs.oneFlag, fun ht => h.trans (hs.clean (hq ht))⟩

/-- A flag raised at a position where the result was all zero. -/
theorem ResultInv.of_raise {q : Seq} (x : Anomaly) (hs : ResultInv s) (hq : Safety.clean s.seq = true)
    (ht : Safety.clean q = false) : ResultInv (goTo q (raiseAnomaly x s)) := by
  have hzero : s.isrResult = IsrResult.zero := hs.clean hq
  refine ⟨.inr ⟨x, ?_⟩, fun h => absurd h (by simp [ht])⟩
  simp [raiseAnomaly, goTo, hzero, IsrResult.zero]

/-- The counts are stored over a result without a flag, outside the clean positions. -/
theorem ResultInv.of_tally (h : s.isrResult = IsrResult.zero) : ResultInv (tally s) :=
  ⟨.inl (by simp [h, IsrResult.zero]), fun h => nomatch h⟩

theorem initStep_keeps_resultInv {p : Params} {pt : InitPt} (hs : ResultInv (goTo (.init pt) s))
    (h : initStep p pt s = .next t) : ResultInv t := by
  have hclean : clean t.seq = false := by
    obtain ⟨_, hq⟩ | hq := initStep_leads h <;> rw [hq] <;> rfl
  have hsame (hr : t.isrResult = s.isrResult) : ResultInv t := hs.of_same hr (by simp [hclean])
  cases pt with
  | link =>
    obtain ⟨u, hu, rfl⟩ := onNext_next_iff.1 h
    obtain ⟨-, rfl⟩ := linkConfigure_next hu
    exact .of_zero rfl
  | _ =>
    obtain rfl := Host.Outcome.next.inj h
    exact hsame rfl

theorem clean_drain (r : DrainRet) (pt pt' : DrainPt) : clean (.drain r pt) = clean (.drain r pt') := by
  cases r with
  | responded failed => cases failed <;> rfl
  | _ => rfl

theorem drainStep_keeps_resultInv {r : DrainRet} {pt : DrainPt} (hs : ResultInv (goTo (.drain r pt) s))
    (h : drainStep r pt s = .next t) : ResultInv t := by
  obtain ⟨pt', hq, hr⟩ | rfl := drainStep_leads h
  · exact hs.of_same hr (by rw [hq, clean_drain r pt' pt]; exact id)
  cases r with
  | received | sent => exact hs.of_same rfl (fun h => nomatch h)
  | notAcknowledged | differenceNegative => exact hs.of_raise _ rfl rfl
  | responded failed => exact hs.of_same rfl (by cases failed <;> exact id)

theorem periodicStep_keeps_resultInv {p : Params} {pt : PerPt} (hs : ResultInv (goTo (.per pt) s))
    (h : periodicStep p pt s = .next t) : ResultInv t := by
  cases pt with
  | loopTest =>
    obtain rfl := Host.Outcome.next.inj h
    split_ifs
    · exact .of_tally (hs.clean rfl)
    · exact hs.of_same rfl id
  | awaitRx cs =>
    obtain rfl := Host.Outcome.next.inj h
    split_ifs
    · exact hs.of_same rfl id
    · exact hs.of_same rfl id
    · exact hs.of_raise .incompleteReceive rfl rfl
  | respondCs i =>
    obtain rfl := Host.Outcome.next.inj h
    split_ifs
    · exact hs.of_same rfl id
    · exact hs.of_raise .incompleteTransmit rfl rfl
  | respondEmpty i =>
    obtain rfl := Host.Outcome.next.inj h
    split_ifs
    · exact hs.of_raise .transmitUnderrun rfl rfl
    · exact hs.of_same rfl id
  | fill k | respondPush k =>
    obtain ⟨-, rfl⟩ := onNext_txPush_next h
    exact hs.of_same rfl (fun _ => rfl)
  | awaitPop =>
    rw [periodicStep] at h
    obtain ⟨v, vs, -, rfl⟩ := rxPop_next h
    exact hs.of_same rfl (fun _ => rfl)
  | classify =>
    obtain rfl := Host.Outcome.next.inj h
    exact hs.of_same (by rw [acknowledge_frame]; rfl) (fun _ => rfl)
  | unmask abort =>
    obtain rfl := Host.Outcome.next.inj h
    exact hs.of_same rfl (by cases abort <;> exact id)
  | waitEdge | respondSpace i =>
    obtain rfl := Host.Outcome.next.inj h
    exact hs.of_same rfl (fun _ => rfl)
  | _ =>
    obtain rfl := Host.Outcome.next.inj h
    exact hs.of_same rfl id

theorem dispatched_resultInv (hs : ResultInv (goTo .dispatch s)) (h : Dispatched s t) : ResultInv t := by
  cases h with
  | sends | abandons | captures | ignores => exact hs.of_same rfl id
  | completes | arms => exact .of_zero rfl
  | overflows => exact ⟨.inr ⟨.arithmeticOverflow, rfl⟩, fun h => nomatch h⟩

end Result

/-- Settles O60: flags are raised at clean positions alone, where the result is all zero. -/
theorem resultInvIsKept : Obligations.ResultInvIsKept := by
  intro s t
  refine step_keeps_at (I := ResultInv) (fun s l hs => hs.of_same rfl id) (fun pt s t _ => initStep_keeps_resultInv)
    (fun pt s t _ hs h => ?recv) (fun r pt s t _ => drainStep_keeps_resultInv) (fun s t _ => dispatched_resultInv)
    (fun pt s t _ hs h => ?send) (fun pt s t _ hs h => ?cap) (fun pt s t _ => periodicStep_keeps_resultInv)
    (fun s hs => ?handler) (fun s hs => ?tick) (fun s t h hs => ?controller) (fun s _ hs => hs.of_same rfl id)
    (fun s _ hs => hs.of_same rfl id)
  case recv =>
    have hclean : clean t.seq = false := by
      obtain ⟨_, hq⟩ | hq | hq := recvStep_leads h <;> rw [hq] <;> rfl
    exact hs.of_same (by rw [recvStep_frame h]; rfl) (by simp [hclean])
  case send =>
    have hclean : clean t.seq = false := by
      obtain ⟨_, hq⟩ | hq := sendStep_leads h <;> rw [hq] <;> rfl
    exact hs.of_same (by rw [sendStep_frame h]; rfl) (by simp [hclean])
  case cap =>
    have hclean : clean t.seq = false := by
      obtain ⟨_, hq⟩ | hq := captureStep_leads h <;> rw [hq] <;> rfl
    exact hs.of_same (by rw [captureStep_frame h]; rfl) (by simp [hclean])
  case handler => exact hs.of_same (by rw [handlerStep_frame]) (by rw [handlerStep_frame]; exact id)
  case tick => exact hs.of_same (by rw [tickStep_frame]) (by rw [tickStep_frame]; exact id)
  case controller => exact hs.of_same (by rw [h.frame]) (by rw [h.frame]; exact id)

end Sys2Proof.Safety

namespace Sys2Proof.Safety

open Sys2Proof.Machine

/-! ### The shared countdown (R262, R346) -/

/-- Positions of a periodic session, the drains of its exchanges among them. -/
def inSession : Seq → Bool
  | .per _ => true
  | q => sessionDrain q

/-- Outside a session nothing is armed and no acknowledgement is classified. -/
theorem not_live_of_not_inSession {q : Seq} (h : inSession q = false) :
    irqLive q = false ∧ arming q = false ∧ classifying q = false ∧ ∀ p, q ≠ .drain .differenceNegative p := by
  cases q with
  | per pt => cases h
  | drain r pt =>
    cases r with
    | received | sent => exact ⟨rfl, rfl, rfl, nofun⟩
    | notAcknowledged | differenceNegative | responded failed => cases h
  | _ => exact ⟨rfl, rfl, rfl, nofun⟩

/-- `COUNTDOWN` is loaded "before the interrupt is enabled" (R244). -/
theorem not_arming_of_irqLive {q : Seq} (h : irqLive q = true) : arming q = false := by
  unfold arming
  split
  case h_5 => rfl
  all_goals cases h

section Countdown

variable {s t : State}

/-- Outside a session all that is left to say is that the interrupt is off and the mask is the position's. -/
theorem CountdownInv.of_outside (hq : inSession t.seq = false) (hirq : t.timer.irqEn = false)
    (hidle : t.handler = .notRunning) (hmask : t.imask = masked t.seq) : CountdownInv t := by
  obtain ⟨-, harming, hclassifying, hdrain⟩ := not_live_of_not_inSession hq
  constructor <;> simp_all

/-- Outside a session the interrupt is off. -/
theorem CountdownInv.irqEn_of_outside (hs : CountdownInv s) (hq : inSession s.seq = false) :
    s.timer.irqEn = false := by
  have hlive := (not_live_of_not_inSession hq).1
  by_contra hirq
  simp [hs.irqEnable (by simpa using hirq)] at hlive

/-- `Send` masks the interrupt exactly between its `IntMask()` and its `IntUnmask()` (R162). -/
theorem sendStep_mask {pt : SendPt} (hs : s.imask = masked (.send pt)) (h : sendStep pt s = .next t) :
    t.imask = masked t.seq := by
  cases pt with
  | preload i =>
    obtain ⟨-, rfl⟩ := onNext_txPush_next h
    dsimp only [goTo_seq, afterPreload]
    split_ifs <;> exact hs
  | push i =>
    obtain ⟨-, rfl⟩ := onNext_txPush_next h
    dsimp only [goTo_seq, sendLoop]
    split_ifs <;> exact hs
  | mask =>
    obtain rfl := Host.Outcome.next.inj h
    dsimp only [goTo_seq, sendLoop]
    split_ifs <;> rfl
  | waitCs | cs i | space i =>
    obtain rfl := Host.Outcome.next.inj h
    rw [goTo_seq]
    split_ifs <;> exact hs
  | underrun i =>
    obtain rfl := Host.Outcome.next.inj h
    split_ifs <;> exact hs
  | unmask =>
    obtain rfl := Host.Outcome.next.inj h
    rfl

/-- A capture never enables the interrupt. -/
theorem captureStep_irqEn {p : Params} {pt : CapPt} (hs : s.timer.irqEn = false) (h : captureStep p pt s = .next t) :
    t.timer.irqEn = false := by
  cases pt with
  | timerReset | exitTimer =>
    obtain rfl := Host.Outcome.next.inj h
    rfl
  | preload k | push =>
    obtain ⟨-, rfl⟩ := onNext_txPush_next h
    exact hs
  | pop =>
    rw [captureStep] at h
    obtain ⟨v, vs, -, rfl⟩ := rxPop_next h
    exact hs
  | exitLink =>
    obtain ⟨u, hu, rfl⟩ := onNext_next_iff.1 h
    obtain ⟨-, rfl⟩ := linkConfigure_next hu
    exact hs
  | poll k | overflowTest cap2 =>
    obtain rfl := Host.Outcome.next.inj h
    split_ifs <;> exact hs
  | rx cs =>
    obtain rfl := Host.Outcome.next.inj h
    split_ifs
    · exact hs
    · exact hs
    · rw [endExchange_frame]
      exact hs
  | _ =>
    obtain rfl := Host.Outcome.next.inj h
    exact hs

theorem initStep_keeps_countdownInv {p : Params} {pt : InitPt} (hh : s.handler = .notRunning)
    (hs : CountdownInv (goTo (.init pt) s)) (h : initStep p pt s = .next t) : CountdownInv t := by
  have hirq : s.timer.irqEn = false := hs.irqEn_of_outside rfl
  have hmask : s.imask = false := hs.mask
  cases pt with
  | link =>
    obtain ⟨u, hu, rfl⟩ := onNext_next_iff.1 h
    obtain ⟨-, rfl⟩ := linkConfigure_next hu
    exact .of_outside rfl hirq hh hmask
  | timerReset =>
    obtain rfl := Host.Outcome.next.inj h
    exact .of_outside rfl rfl hh hmask
  | unmask =>
    obtain rfl := Host.Outcome.next.inj h
    exact .of_outside rfl hirq hh rfl
  | _ =>
    obtain rfl := Host.Outcome.next.inj h
    exact .of_outside rfl hirq hh hmask

theorem drainStep_keeps_countdownInv {r : DrainRet} {pt : DrainPt}
    (hs : CountdownInv (goTo (.drain r pt) s)) (h : drainStep r pt s = .next t) : CountdownInv t := by
  obtain ⟨pt', hq, -⟩ | rfl := drainStep_leads h
  · rw [drainStep_frame h, hq]
    cases r with
    | differenceNegative => exact absurd rfl (hs.reachable pt)
    | _ => exact { hs with reachable := nofun }
  · cases r with
    | differenceNegative => exact absurd rfl (hs.reachable pt)
    | _ => exact { hs with reachable := nofun }

/-- An acknowledgement that is not negative is answered, and `P.LASTACK` becomes `COUNTDOWN` (R260). -/
theorem acknowledge_of_le (p : Params) (h : s.countdown.toNat ≤ s.per.lastAck.toNat) :
    (acknowledge p s).seq = .per (.respondCs 0) ∧ (acknowledge p s).per.lastAck = s.countdown := by
  obtain hzero | hone | hmore : s.per.lastAck.toNat = s.countdown.toNat ∨
      s.per.lastAck.toNat = s.countdown.toNat + 1 ∨ s.countdown.toNat + 1 < s.per.lastAck.toNat := by omega
  · rw [acknowledge_duplicate p (BitVec.eq_of_toNat_eq hzero)]
    exact ⟨rfl, rfl⟩
  · rw [acknowledge_onTime p hone]
    exact ⟨rfl, rfl⟩
  · obtain ⟨latency, hack, -⟩ := acknowledge_late p hmore
    rw [hack]
    exact ⟨rfl, rfl⟩

theorem periodicStep_keeps_countdownInv {p : Params} {pt : PerPt} (hh : s.handler = .notRunning)
    (hs : CountdownInv (goTo (.per pt) s)) (h : periodicStep p pt s = .next t) : CountdownInv t := by
  cases pt with
  | armTimerReset | drainTimerReset =>
    obtain rfl := Host.Outcome.next.inj h
    exact { hs with irqEnable := nofun, handlerRuns := (absurd hh ·), entry := nofun, reachable := nofun }
  | armIrqEnable =>
    obtain rfl := Host.Outcome.next.inj h
    exact { hs with
      irqEnable := fun _ => rfl, handlerRuns := (absurd hh ·), entry := fun _ _ => hs.loaded rfl, loaded := nofun,
      reachable := nofun }
  | loopTest =>
    obtain rfl := Host.Outcome.next.inj h
    split_ifs
    · exact { hs with order := nofun, reachable := nofun }
    · exact { hs with reachable := nofun }
  | mask =>
    obtain rfl := Host.Outcome.next.inj h
    exact { hs with mask := rfl, handlerRuns := (absurd hh ·), reachable := nofun }
  | unmask abort =>
    obtain rfl := Host.Outcome.next.inj h
    cases abort
    · exact { hs with mask := rfl, handlerRuns := (absurd hh ·), reachable := nofun }
    · exact { hs with mask := rfl, handlerRuns := (absurd hh ·), order := nofun, reachable := nofun }
  | fill k | respondPush k =>
    obtain ⟨-, rfl⟩ := onNext_txPush_next h
    split_ifs <;> exact { hs with reachable := nofun }
  | awaitPop =>
    rw [periodicStep] at h
    obtain ⟨v, vs, -, rfl⟩ := rxPop_next h
    rw [afterFirstByte]
    split_ifs <;> exact { hs with reachable := nofun }
  | classify =>
    obtain rfl := Host.Outcome.next.inj h
    obtain ⟨hq, hlast⟩ := acknowledge_of_le (s := s) p (hs.order rfl)
    rw [acknowledge_frame, hq]
    exact { hs with order := fun _ => hlast ▸ le_rfl, reachable := nofun }
  | waitEdge | awaitRx cs | respondCs i | respondEmpty i | respondSpace i =>
    obtain rfl := Host.Outcome.next.inj h
    split_ifs <;> exact { hs with reachable := nofun }
  | drainEdgeDisable | drainEdgeClear | _ =>
    obtain rfl := Host.Outcome.next.inj h
    exact { hs with reachable := nofun }

theorem dispatched_keeps_countdownInv (hh : s.handler = .notRunning) (hs : CountdownInv (goTo .dispatch s))
    (h : Dispatched s t) : CountdownInv t := by
  have hirq : s.timer.irqEn ≠ true := fun hirq => nomatch hs.irqEnable hirq
  cases h with
  | sends | abandons | captures | ignores => exact { hs with reachable := nofun }
  | overflows | completes => exact { hs with irqEnable := fun _ => rfl, order := nofun, reachable := nofun }
  | arms regs total htotal =>
    exact { hs with
      entry := (absurd · hirq), decrement := fun _ => htotal
      stopped := fun hstop => by simp [hh] at hstop
      loaded := fun _ => htotal, order := fun _ => le_rfl, reachable := nofun }

theorem handlerStep_keeps_countdownInv (hs : CountdownInv s) : CountdownInv (handlerStep s) := by
  rw [handlerStep]
  split
  next hh =>
    split_ifs with hstart
    · obtain ⟨-, hen, hmask⟩ := (handlerMayStart_iff s).1 hstart
      exact { hs with
        handlerRuns := fun _ => ⟨hen, hs.mask ▸ hmask⟩, entry := fun _ => nofun
        decrement := fun _ => hs.entry hen hh, stopped := by simp [enterHandler] }
    · exact hs
  next hh =>
    obtain ⟨hen, hmask⟩ := hs.handlerRuns (by simp [hh])
    have hpos : s.countdown ≠ 0 := hs.decrement hh
    have hle : (s.countdown - 1).toNat ≤ s.countdown.toNat := by bv_omega
    have horder (hq : classifying s.seq = true) : (s.countdown - 1).toNat ≤ s.per.lastAck.toNat :=
      hle.trans (hs.order hq)
    have harming : arming s.seq ≠ true := by simp [not_arming_of_irqLive (hs.irqEnable hen)]
    rw [handlerDecrement]
    split_ifs with hzero
    · exact { hs with
        handlerRuns := fun _ => ⟨hen, hmask⟩, entry := fun _ => nofun, decrement := nofun, stopped := fun _ => hzero
        loaded := (absurd · harming), order := horder }
    · exact { hs with
        handlerRuns := nofun, entry := fun _ _ => hzero, decrement := nofun, stopped := nofun
        loaded := (absurd · harming), order := horder }
  next hh =>
    exact { hs with
      handlerRuns := fun _ => hs.handlerRuns (by simp [hh]), entry := fun _ => nofun, decrement := nofun
      stopped := fun _ => hs.stopped (.inl hh) }
  next hh =>
    exact { hs with
      irqEnable := nofun, handlerRuns := nofun, entry := nofun, decrement := nofun, stopped := nofun }

end Countdown

/-- Settles O59: the interrupt is enabled only where `COUNTDOWN` is loaded, its handler stops it at 0, and every answer sets
`P.LASTACK` to `COUNTDOWN`. -/
theorem countdownInvIsKept : Obligations.CountdownInvIsKept := by
  intro s t
  refine step_keeps_at (I := CountdownInv) (fun s l hs => { hs with }) (fun pt s t => initStep_keeps_countdownInv)
    (fun pt s t hh hs h => ?recv) (fun r pt s t _ => drainStep_keeps_countdownInv)
    (fun s t => dispatched_keeps_countdownInv) (fun pt s t hh hs h => ?send) (fun pt s t hh hs h => ?cap)
    (fun pt s t => periodicStep_keeps_countdownInv) (fun s => handlerStep_keeps_countdownInv) (fun s hs => ?tick)
    (fun s t h hs => ?controller) (fun s _ hs => { hs with reachable := nofun })
    (fun s _ hs => { hs with reachable := nofun })
  case recv =>
    have hirq : s.timer.irqEn = false := hs.irqEn_of_outside rfl
    rw [recvStep_frame h]
    obtain ⟨_, hq⟩ | hq | hq := recvStep_leads h <;> rw [hq] <;> exact .of_outside rfl hirq hh hs.mask
  case send =>
    have hirq : s.timer.irqEn = false := hs.irqEn_of_outside rfl
    have hmask := sendStep_mask (s := s) hs.mask h
    have hout : inSession t.seq = false := by
      obtain ⟨_, hq⟩ | hq := sendStep_leads h <;> rw [hq] <;> rfl
    exact .of_outside hout (by rw [sendStep_frame h]; exact hirq) (by rw [sendStep_frame h]; exact hh) hmask
  case cap =>
    have hirq : t.timer.irqEn = false := captureStep_irqEn (s := s) (hs.irqEn_of_outside rfl) h
    rw [captureStep_frame h]
    obtain ⟨_, hq⟩ | hq := captureStep_leads h <;> rw [hq] <;> exact .of_outside rfl hirq hh hs.mask
  case tick => rw [tickStep_frame]; exact { hs with }
  case controller => rw [h.frame]; exact { hs with }

end Sys2Proof.Safety

namespace Sys2Proof.Safety

open Sys2Proof.Machine

/-! ### The clock of a capture (R204, R206, R214, R354) -/

section Clock

variable {s t : State} {u : Timer}

/-- The overflow match stops the counter before it can pass the match value (R354). -/
theorem clockRuns_tickTimer (h : clockRuns u) (hen : u.en = true) : clockRuns (tickTimer u) := by
  obtain ⟨hper, hovfEn, hovf, -, hlt, hcap⟩ := h
  have hmatch : periodMatches u = false := by simp [periodMatches, hper]
  have hcnt : (u.cnt + 1).toNat = u.cnt.toNat + 1 := by
    have := hlt hen
    bv_omega
  have htick : tickTimer u = { u with cnt := u.cnt + 1, en := !decide (u.cnt + 1 = u.ovf) } := by
    simp [tickTimer, overflowMatches, nextCount, hmatch, hovfEn]
  have hle : (u.cnt + 1).toNat ≤ u.ovf.toNat := hcnt ▸ hlt hen
  rw [htick]
  refine ⟨hper, hovfEn, hovf, hle, fun hen' => ?_, hcap.trans (hcnt ▸ Nat.le_succ _)⟩
  have hne : u.cnt + 1 ≠ u.ovf := by simpa using hen'
  exact lt_of_le_of_ne hle (fun heq => hne (BitVec.eq_of_toNat_eq heq))

/-- Step 4 of a capture starts the counter at 0, below the overflow match (R8, R204). -/
theorem clockRuns_of_clockZero (h : clockZero u) (hovf : u.ovf = Config.machine.captureOverflowMatch)
    (hovfEn : u.ovfEn = true) : clockRuns { u with en := true } := by
  obtain ⟨-, hcnt, hcap, hper⟩ := h
  have hne : u.ovf ≠ 0 := hovf ▸ ((params_wf_iff _).1 machine_wf).2.2.2.1
  have hpos : 0 < u.ovf.toNat := Nat.pos_of_ne_zero fun h => hne (BitVec.eq_of_toNat_eq h)
  exact ⟨hper, hovfEn, hovf, by simp [hcnt], fun _ => by simpa [hcnt] using hpos, by simp [hcap]⟩

/-- A falling edge latches the counter, which no latched value has passed (R82). -/
theorem clockRuns_captureLatch (h : clockRuns u) :
    clockRuns (captureLatch u) ∧ u.cap.toNat ≤ (captureLatch u).cap.toNat := by
  obtain ⟨hper, hovfEn, hovf, hle, hlt, hcap⟩ := h
  rw [captureLatch_eq]
  refine ⟨⟨hper, hovfEn, hovf, hle, hlt, ?_⟩, ?_⟩ <;> dsimp only <;> split_ifs
  exacts [le_rfl, hcap, hcap, le_rfl]

theorem firstBefore_mono {c : CaptureRegs} {v w : U32} (h : firstBefore c v) (hvw : v.toNat ≤ w.toNat) :
    firstBefore c w := fun hst => ⟨(h hst).1, (h hst).2.trans hvw⟩

/-- The relations ask for nothing outside a capture. -/
theorem CaptureClockInv.of_not_capturing (h : capturing t.seq = false) : CaptureClockInv t := by
  unfold CaptureClockInv
  split <;> simp_all [capturing]

/-- What a turn of another agent may do to the timer. -/
theorem CaptureClockInv.of_timer (hs : CaptureClockInv s) (hq : t.seq = s.seq) (hc : t.cap = s.cap)
    (hzero : clockZero s.timer → clockZero t.timer) (hovf : t.timer.ovf = s.timer.ovf)
    (hovfEn : t.timer.ovfEn = s.timer.ovfEn) (hruns : clockRuns s.timer → clockRuns t.timer)
    (hcap : clockRuns s.timer → s.timer.cap.toNat ≤ t.timer.cap.toNat) : CaptureClockInv t := by
  have hfirst (hr : clockRuns s.timer) (h : firstBefore s.cap s.timer.cap) : firstBefore s.cap t.timer.cap :=
    firstBefore_mono h (hcap hr)
  unfold CaptureClockInv at hs ⊢
  rw [hq, hc, hovf, hovfEn]
  split at hs <;> simp_all

theorem captureStep_keeps_clockInv {pt : CapPt} (hs : CaptureClockInv (goTo (.cap pt) s))
    (h : captureStep Config.machine pt s = .next t) : CaptureClockInv t := by
  cases pt with
  | timerReset =>
    obtain rfl := Host.Outcome.next.inj h
    exact ⟨rfl, rfl, rfl, rfl⟩
  | overflowMatch =>
    obtain rfl := Host.Outcome.next.inj h
    exact ⟨hs, rfl⟩
  | overflowEnable =>
    obtain rfl := Host.Outcome.next.inj h
    exact ⟨hs.1, hs.2, rfl⟩
  | enable =>
    obtain rfl := Host.Outcome.next.inj h
    exact clockRuns_of_clockZero hs.1 hs.2.1 hs.2.2
  | preload k =>
    obtain ⟨-, rfl⟩ := onNext_txPush_next h
    split_ifs <;> exact hs
  | push =>
    obtain ⟨-, rfl⟩ := onNext_txPush_next h
    exact hs
  | poll k =>
    obtain rfl := Host.Outcome.next.inj h
    split_ifs with hcap
    · exact ⟨hs, fun _ => ⟨hcap, le_rfl⟩⟩
    · exact hs
    · exact hs
  | approximate =>
    obtain rfl := Host.Outcome.next.inj h
    exact ⟨hs, nofun⟩
  | rx cs =>
    obtain rfl := Host.Outcome.next.inj h
    split_ifs
    · exact hs
    · exact hs
    · rw [endExchange]
      split
      next hst => exact ⟨hs.1, hs.2, hst⟩
      all_goals exact trivial
  | pop =>
    rw [captureStep] at h
    obtain ⟨v, vs, -, rfl⟩ := rxPop_next h
    exact hs
  | overflowTest cap2 =>
    obtain rfl := Host.Outcome.next.inj h
    split_ifs <;> exact trivial
  | exitTimer =>
    obtain rfl := Host.Outcome.next.inj h
    exact trivial
  | exitLink =>
    obtain ⟨u, -, rfl⟩ := onNext_next_iff.1 h
    exact trivial
  | waitCs | pollRx cs | space =>
    obtain rfl := Host.Outcome.next.inj h
    split_ifs <;> exact hs
  | _ =>
    obtain rfl := Host.Outcome.next.inj h
    exact hs

/-- The handler turns things off; what a capture's clock asks of the timer stays. -/
theorem handlerStep_keeps_clockInv (hs : CaptureClockInv s) : CaptureClockInv (handlerStep s) := by
  have hper : s.timer.perEn = false → (handlerStep s).timer.perEn = false := fun h => by
    rw [handlerStep]
    split
    · split_ifs <;> exact h
    · rw [handlerDecrement]
      split_ifs <;> exact h
    · rfl
    · exact h
  rw [handlerStep_frame]
  exact hs.of_timer rfl rfl (fun ⟨hen, hcnt, hcap, h⟩ => ⟨hen, hcnt, hcap, hper h⟩) rfl rfl
    (fun ⟨h, hruns⟩ => ⟨hper h, hruns⟩) (fun _ => le_rfl)

theorem tickStep_keeps_clockInv (hs : CaptureClockInv s) : CaptureClockInv (tickStep s) := by
  rw [tickStep]
  split_ifs with hen
  · have hovf : (tickTimer s.timer).ovf = s.timer.ovf ∧ (tickTimer s.timer).ovfEn = s.timer.ovfEn ∧
        (tickTimer s.timer).cap = s.timer.cap := by
      rw [tickTimer]
      split_ifs <;> exact ⟨rfl, rfl, rfl⟩
    obtain ⟨hovf, hovfEn, hcap⟩ := hovf
    exact hs.of_timer rfl rfl (fun ⟨hoff, _⟩ => absurd hen (by simp [hoff])) hovf hovfEn (clockRuns_tickTimer · hen)
      (fun _ => hcap ▸ le_rfl)
  · exact hs

theorem controllerTurn_keeps_clockInv (hs : CaptureClockInv s) (h : ControllerTurn s t) : CaptureClockInv t := by
  cases h with
  | sckFall =>
    rw [sckFall]
    split_ifs
    · refine hs.of_timer rfl rfl (fun hzero => ?_) ?_ ?_ (fun h => (clockRuns_captureLatch h).1)
        (fun h => (clockRuns_captureLatch h).2)
      · rw [captureLatch, if_neg (by simp [hzero.1])]
        exact hzero
      · rw [captureLatch_eq]
      · rw [captureLatch_eq]
    · exact hs
  | wordStart =>
    rw [wordStart]
    split_ifs
    · split <;> exact hs
    · exact hs
  | wordEnd c =>
    rw [wordEnd]
    split_ifs <;> exact hs
  | csAssert =>
    rw [csAssert]
    split_ifs <;> exact hs
  | csDeassert =>
    rw [csDeassert]
    split_ifs <;> exact hs

end Clock

/-- The duration stored after a first capture is the exact difference of the captures (R214). -/
theorem duration_exact {s : State} {cap2 : U32} (hq : s.seq = .cap (.overflowTest cap2)) (hs : CaptureClockInv s) :
    s.cap.cap1 ≠ 0 ∧ (cap2 - s.cap.cap1).toNat + s.cap.cap1.toNat = cap2.toNat := by
  rw [← goTo_of_seq_eq hq] at hs
  obtain ⟨-, hfirst, hst⟩ := hs
  obtain ⟨hne, hle⟩ := hfirst hst
  rw [goTo_cap] at hne hle
  exact ⟨hne, by rw [BitVec.toNat_sub_of_le hle, Nat.sub_add_cancel hle]⟩

/-- Settles O29: every agent keeps the relations position by position, and at the end of a capture they order its two values. -/
theorem captureClockInvIsKept : Obligations.CaptureClockInvIsKept := by
  intro s t hs h
  refine ⟨?keeps, fun cap2 hmain hen => ?exact⟩
  case exact =>
    have hstep : step s = .next (storeCapture Config.machine (cap2 - s.cap.cap1) .success (spent 1 s)) := by
      rw [step_capture hmain, captureStep]
      exact congrArg _ (if_pos hen)
    obtain rfl := Host.Outcome.next.inj (h.symm.trans hstep)
    exact duration_exact hmain.1 hs
  case keeps =>
    refine step_keeps_at (I := CaptureClockInv) (fun s l hs => hs) (fun pt s t _ _ h => ?init)
      (fun pt s t _ _ h => ?recv) (fun r pt s t _ _ h => ?drain) (fun s t _ _ h => ?command)
      (fun pt s t _ _ h => ?send) (fun pt s t _ => captureStep_keeps_clockInv) (fun pt s t _ _ h => ?per)
      (fun s => handlerStep_keeps_clockInv) (fun s => tickStep_keeps_clockInv)
      (fun s t h hs => controllerTurn_keeps_clockInv hs h) (fun s _ _ => trivial) (fun s _ _ => trivial) hs h
    case init =>
      obtain ⟨_, hq⟩ | hq := initStep_leads h <;> exact .of_not_capturing (by rw [hq]; rfl)
    case recv =>
      obtain ⟨_, hq⟩ | hq | hq := recvStep_leads h <;> exact .of_not_capturing (by rw [hq]; rfl)
    case drain =>
      obtain ⟨_, hq, -⟩ | rfl := drainStep_leads h
      · exact .of_not_capturing (by rw [hq]; rfl)
      · cases r <;> exact trivial
    case command => cases h <;> exact trivial
    case send =>
      obtain ⟨_, hq⟩ | hq := sendStep_leads h <;> exact .of_not_capturing (by rw [hq]; rfl)
    case per =>
      obtain ⟨_, hq⟩ | ⟨_, hq⟩ | hq := periodicStep_leads h <;> exact .of_not_capturing (by rw [hq]; rfl)

end Sys2Proof.Safety

namespace Sys2Proof.Safety

open Sys2Proof.Machine

/-! ### The form of the FIFOs and of a word in flight (R31, R81 to R85) -/

/-- The FIFOs and the shift state in their form. -/
def LinkForm (s : State) : Prop := fifosWf s = true ∧ ShiftInv s

section Form

variable {s t : State}

/-- A turn that leaves the link and chip-select alone leaves the shift state. -/
theorem ShiftInv.of_same (hs : ShiftInv s) (hlink : t.link = s.link) (hcs : t.cs = s.cs) : ShiftInv t := by
  rw [ShiftInv, hlink, hcs]
  exact hs

theorem txPush_linkForm {w : Word} (hs : LinkForm s) (h : txPush w s = .next t) : LinkForm t := by
  refine ⟨txPush_fifosWf hs.1 h, hs.2.of_same ?_ ?_⟩ <;> rw [(txPush_next h).2]

theorem popped_linkForm {v : Word} {vs : List Word} (hs : LinkForm s) (h : s.rxf = v :: vs) :
    LinkForm { s with rxf := vs } :=
  ⟨rxPop_fifosWf (k := fun _ u => u) (fun _ _ hu => hu) hs.1 (rxPop_of_cons h), hs.2⟩

/-- The word length changes with both FIFOs empty and no word in flight (R181). -/
theorem linkConfigure_linkForm {p : Params} {m l : Byte} (hs : ShiftInv s) (h : linkConfigure p m l s = .next t) :
    LinkForm t := by
  refine ⟨linkConfigure_fifosWf h, ?_⟩
  obtain ⟨hfree, rfl⟩ := linkConfigure_next h
  exact ⟨fun hin => by simp [hfree] at hin, fun _ => hs.2 hfree⟩

theorem initStep_linkForm {p : Params} {pt : InitPt} (hs : LinkForm s) (h : initStep p pt s = .next t) :
    LinkForm t := by
  cases pt with
  | link =>
    obtain ⟨u, hu, rfl⟩ := onNext_next_iff.1 h
    exact linkConfigure_linkForm (t := u) (by exact hs.2) hu
  | _ =>
    obtain rfl := Host.Outcome.next.inj h
    exact hs

theorem recvStep_linkForm {pt : RecvPt} (hs : LinkForm s) (h : recvStep pt s = .next t) : LinkForm t := by
  cases pt with
  | pop i =>
    rw [recvStep] at h
    obtain ⟨v, vs, hr, rfl⟩ := rxPop_next h
    exact popped_linkForm (s := s) hs hr
  | _ =>
    obtain rfl := Host.Outcome.next.inj h
    exact hs

theorem drainStep_linkForm {r : DrainRet} {pt : DrainPt} (hs : LinkForm s) (h : drainStep r pt s = .next t) :
    LinkForm t := by
  cases pt with
  | cs =>
    obtain rfl := Host.Outcome.next.inj h
    exact hs
  | rx cs =>
    obtain rfl := Host.Outcome.next.inj h
    split_ifs
    · exact hs
    · exact hs
    · cases r <;> exact hs
  | pop =>
    obtain ⟨v, vs, hr, rfl⟩ := rxPop_next h
    exact popped_linkForm (s := s) hs hr

theorem sendStep_linkForm {pt : SendPt} (hs : LinkForm s) (h : sendStep pt s = .next t) : LinkForm t := by
  cases pt with
  | preload i | push i =>
    obtain ⟨u, hu, rfl⟩ := onNext_next_iff.1 h
    exact txPush_linkForm (t := u) hs hu
  | underrun i =>
    obtain rfl := Host.Outcome.next.inj h
    split_ifs <;> exact hs
  | _ =>
    obtain rfl := Host.Outcome.next.inj h
    exact hs

theorem captureStep_linkForm {p : Params} {pt : CapPt} (hs : LinkForm s) (h : captureStep p pt s = .next t) :
    LinkForm t := by
  cases pt with
  | preload k | push =>
    obtain ⟨u, hu, rfl⟩ := onNext_next_iff.1 h
    exact txPush_linkForm (t := u) hs hu
  | pop =>
    rw [captureStep] at h
    obtain ⟨v, vs, hr, rfl⟩ := rxPop_next h
    exact popped_linkForm (s := s) hs hr
  | exitLink =>
    obtain ⟨u, hu, rfl⟩ := onNext_next_iff.1 h
    exact linkConfigure_linkForm (t := u) hs.2 hu
  | poll k | overflowTest cap2 =>
    obtain rfl := Host.Outcome.next.inj h
    split_ifs <;> exact hs
  | rx cs =>
    obtain rfl := Host.Outcome.next.inj h
    split_ifs
    · exact hs
    · exact hs
    · rw [endExchange_frame]
      exact hs
  | _ =>
    obtain rfl := Host.Outcome.next.inj h
    exact hs

theorem periodicStep_linkForm {p : Params} {pt : PerPt} (hs : LinkForm s) (h : periodicStep p pt s = .next t) :
    LinkForm t := by
  cases pt with
  | fill k | respondPush k =>
    obtain ⟨u, hu, rfl⟩ := onNext_next_iff.1 h
    exact txPush_linkForm (t := u) hs hu
  | awaitPop =>
    rw [periodicStep] at h
    obtain ⟨v, vs, hr, rfl⟩ := rxPop_next h
    exact popped_linkForm (s := s) hs hr
  | fifoClear =>
    obtain rfl := Host.Outcome.next.inj h
    exact ⟨fifoClear_fifosWf s, hs.2⟩
  | classify =>
    obtain rfl := Host.Outcome.next.inj h
    rw [acknowledge_frame]
    exact hs
  | loopTest | awaitRx cs | respondCs i | respondEmpty i =>
    obtain rfl := Host.Outcome.next.inj h
    split_ifs <;> exact hs
  | _ =>
    obtain rfl := Host.Outcome.next.inj h
    exact hs

theorem dispatched_linkForm (hs : LinkForm s) (h : Dispatched s t) : LinkForm t := by
  cases h with
  | captures l mode sv rv d hfree =>
    exact ⟨fifosWf_of_empty rfl rfl, fun hin => by simp [hfree] at hin, fun _ => hs.2.2 hfree⟩
  | _ => exact hs

theorem wordStart_shiftInv (hs : LinkForm s) : ShiftInv (wordStart s) := by
  obtain ⟨hwf, hshift⟩ := hs
  rw [wordStart]
  split_ifs with hstart
  · have hcs : s.cs = true := by simp_all
    split
    next w ws htxf =>
      have hfits := ((fifosWf_iff s).1 hwf).2.2.1 w (by simp [htxf])
      exact ⟨fun _ => ⟨hcs, le_rfl, hfits⟩, nofun⟩
    next => exact ⟨fun _ => ⟨hcs, le_rfl, and_mask_idem _ _⟩, nofun⟩
  · exact hshift

theorem sckFall_shiftInv (hs : ShiftInv s) : ShiftInv (sckFall s) := by
  rw [sckFall]
  split_ifs with hfall
  · obtain ⟨hin, hne⟩ : s.link.inflight = true ∧ s.link.falls ≠ 0 := by simpa using hfall
    obtain ⟨hcs, hle, hout⟩ := hs.1 hin
    exact ⟨fun _ => ⟨hcs, le_trans (by bv_omega) hle, hout⟩, fun h => by simp [hin] at h⟩
  · exact hs

theorem wordEnd_shiftInv (c : Word) (hs : ShiftInv s) : ShiftInv (wordEnd c s) := by
  rw [wordEnd]
  split
  next hend => exact ⟨nofun, fun _ => by simp_all⟩
  next => exact hs

theorem controllerTurn_linkForm (hs : LinkForm s) (h : ControllerTurn s t) : LinkForm t := by
  cases h with
  | wordStart => exact ⟨wordStart_fifosWf hs.1, wordStart_shiftInv hs⟩
  | sckFall =>
    refine ⟨?_, sckFall_shiftInv hs.2⟩
    rw [sckFall]
    split_ifs <;> exact hs.1
  | wordEnd c => exact ⟨wordEnd_fifosWf c hs.1, wordEnd_shiftInv c hs.2⟩
  | csAssert =>
    rw [csAssert]
    split_ifs with hcs
    · exact hs
    · exact ⟨hs.1, fun hin => absurd (hs.2.1 hin).1 hcs, hs.2.2⟩
  | csDeassert =>
    rw [csDeassert]
    split_ifs with hcs
    · exact ⟨hs.1, fun hin => by simp_all, hs.2.2⟩
    · exact hs

end Form

/-- Settles O56: pushes cut, pops and clears shorten, and the word length changes only with nothing queued or in flight. -/
theorem fifosStayWellFormed : Obligations.FifosStayWellFormed := by
  intro s t hwf hshift
  exact step_keeps_at (I := LinkForm) (fun _ _ hs => hs) (fun _ s _ _ => initStep_linkForm (s := s))
    (fun _ s _ _ => recvStep_linkForm (s := s)) (fun _ _ s _ _ => drainStep_linkForm (s := s))
    (fun s _ _ => dispatched_linkForm (s := s)) (fun _ s _ _ => sendStep_linkForm (s := s))
    (fun _ s _ _ => captureStep_linkForm (s := s)) (fun _ s _ _ => periodicStep_linkForm (s := s))
    (fun s hs => by rw [handlerStep_frame]; exact hs) (fun s hs => by rw [tickStep_frame]; exact hs)
    (fun _ _ h hs => controllerTurn_linkForm hs h) (fun _ _ hs => hs) (fun _ _ hs => hs) ⟨hwf, hshift⟩

end Sys2Proof.Safety

namespace Sys2Proof.Safety

open Sys2Proof.Machine

/-! ### Room in the FIFOs (R72, R73, U6) -/

/-- The outcome misuses no FIFO, and a next state keeps the room. -/
def KeepsRoom (o : Out) : Prop := NoFifoMisuse o ∧ ∀ t, o = .next t → RoomInv t

section Room

variable {s t : State}

theorem keepsRoom_next (h : RoomInv t) : KeepsRoom (.next t) :=
  ⟨⟨nofun, nofun⟩, fun _ ht => Host.Outcome.next.inj ht ▸ h⟩

theorem keepsRoom_refused {r : Refusal} (hpush : r ≠ .txPushFull) (hpop : r ≠ .rxPopEmpty) : KeepsRoom (.refused r) :=
  ⟨⟨fun h => hpush (Host.Outcome.refused.inj h), fun h => hpop (Host.Outcome.refused.inj h)⟩, fun _ h => by cases h⟩

/-- A push where there is room. -/
theorem keepsRoom_txPush {w : Word} {f : State → State} (hroom : s.txf.length < 8)
    (h : RoomInv (f { s with txf := s.txf ++ [w &&& mask s.link.bits] })) : KeepsRoom (onNext (txPush w s) f) := by
  rw [txPush_of_room hroom]
  exact keepsRoom_next h

/-- A pop where there is a word. -/
theorem keepsRoom_rxPop {k : Word → State → State} (hword : s.rxf ≠ [])
    (h : ∀ v vs, RoomInv (k v { s with rxf := vs })) : KeepsRoom (rxPop k s) := by
  obtain ⟨v, vs, hr⟩ := List.exists_cons_of_ne_nil hword
  rw [rxPop_of_cons hr]
  exact keepsRoom_next (h v vs)

/-- A link configuration, followed by what asks for an empty `TXF` at most. -/
theorem keepsRoom_linkConfigure {p : Params} {m l : Byte} {f : State → State}
    (h : ∀ u, u.txf = [] → RoomInv (f u)) : KeepsRoom (onNext (linkConfigure p m l s) f) := by
  cases hfree : s.link.inflight
  · rw [linkConfigure_of_free hfree]
    exact keepsRoom_next (h _ rfl)
  · rw [linkConfigure_of_inflight hfree]
    exact keepsRoom_refused (by simp) (by simp)

/-- The other agents leave the position and the frame, take from `TXF` and add to `RXF`. -/
theorem RoomInv.of_other (hs : RoomInv s) (hq : t.seq = s.seq) (hframe : t.frame = s.frame)
    (htxf : t.txf.length ≤ s.txf.length) (hrxf : s.rxf ≠ [] → t.rxf ≠ []) : RoomInv t := by
  have hnil : s.txf = [] → t.txf = [] := fun h => List.eq_nil_of_length_eq_zero (by simpa [h] using htxf)
  unfold RoomInv at hs ⊢
  rw [hq, hframe]
  split at hs <;> simp_all <;> omega

theorem controllerTurn_room (hs : RoomInv s) (h : ControllerTurn s t) : RoomInv t := by
  cases h with
  | wordStart =>
    rw [wordStart]
    split_ifs
    · split
      next w ws htxf => exact hs.of_other rfl rfl (by simp [htxf]) id
      next => exact hs.of_other rfl rfl le_rfl id
    · exact hs
  | sckFall =>
    rw [sckFall]
    split_ifs <;> exact hs
  | wordEnd c =>
    rw [wordEnd]
    split
    · refine hs.of_other rfl rfl le_rfl fun hne => ?_
      dsimp only
      split_ifs <;> simp [hne]
    · exact hs
  | csAssert =>
    rw [csAssert]
    split_ifs <;> exact hs
  | csDeassert =>
    rw [csDeassert]
    split_ifs <;> exact hs

theorem initStep_keepsRoom (p : Params) (pt : InitPt) : KeepsRoom (initStep p pt s) := by
  cases pt with
  | link => exact keepsRoom_linkConfigure fun _ _ => trivial
  | _ => exact keepsRoom_next trivial

theorem recvStep_keepsRoom {pt : RecvPt} (hs : RoomInv (goTo (.recv pt) s)) : KeepsRoom (recvStep pt s) := by
  cases pt with
  | entry =>
    refine keepsRoom_next ?_
    split_ifs <;> exact trivial
  | cs i => exact keepsRoom_next trivial
  | rx i cs =>
    refine keepsRoom_next ?_
    split_ifs with hrx
    · exact (rxNotEmpty_iff s).1 hrx
    · exact trivial
    · exact trivial
  | pop i =>
    rw [recvStep]
    refine keepsRoom_rxPop hs fun v vs => ?_
    rw [afterByte]
    split_ifs <;> exact trivial

theorem drainStep_keepsRoom {r : DrainRet} {pt : DrainPt} (hs : RoomInv (goTo (.drain r pt) s)) :
    KeepsRoom (drainStep r pt s) := by
  cases pt with
  | cs => exact keepsRoom_next trivial
  | rx cs =>
    refine keepsRoom_next ?_
    split_ifs with hrx
    · exact (rxNotEmpty_iff s).1 hrx
    · exact trivial
    · cases r <;> exact trivial
  | pop => exact keepsRoom_rxPop hs fun _ _ => trivial

theorem sendLoop_room (f : List Byte) (i : Nat) : RoomInv (goTo (sendLoop f i) s) := by
  rw [sendLoop]
  split_ifs <;> exact trivial

theorem sendStep_keepsRoom {pt : SendPt} (hs : RoomInv (goTo (.send pt) s)) : KeepsRoom (sendStep pt s) := by
  cases pt with
  | preload i =>
    obtain ⟨hle, hlt⟩ : s.txf.length ≤ i ∧ i < preloadCount s.frame := hs
    have h8 : preloadCount s.frame ≤ 8 := min_le_right _ _
    refine keepsRoom_txPush (by omega) ?_
    rw [afterPreload]
    split_ifs with hmore
    · exact ⟨by simpa using hle, hmore⟩
    · exact trivial
  | waitCs | cs i =>
    refine keepsRoom_next ?_
    split_ifs <;> exact trivial
  | mask => exact keepsRoom_next (sendLoop_room (s := setIntMask true s) _ _)
  | underrun i => exact keepsRoom_next trivial
  | space i =>
    refine keepsRoom_next ?_
    split_ifs with hroom
    · exact (txNotFull_iff s).1 hroom
    · exact trivial
  | push i => exact keepsRoom_txPush hs (sendLoop_room _ _)
  | unmask => exact keepsRoom_next trivial

theorem endExchange_room (p : Params) : RoomInv (endExchange p s) := by
  rw [endExchange]
  split <;> exact trivial

theorem captureStep_keepsRoom {p : Params} {pt : CapPt} (hs : RoomInv (goTo (.cap pt) s)) :
    KeepsRoom (captureStep p pt s) := by
  cases pt with
  | timerReset | overflowMatch | overflowEnable => exact keepsRoom_next hs
  | captureArm =>
    have hnil : s.txf = [] := hs
    exact keepsRoom_next ⟨by simp [setCaptureArm, hnil], by decide⟩
  | preload k =>
    obtain ⟨hle, hlt⟩ : s.txf.length ≤ k ∧ k < 8 := hs
    refine keepsRoom_txPush (by omega) ?_
    split_ifs with hmore
    · exact ⟨by simpa using hle, hmore⟩
    · exact trivial
  | poll k | pollRx cs | overflowTest cap2 | waitCs =>
    refine keepsRoom_next ?_
    split_ifs <;> exact trivial
  | rx cs =>
    refine keepsRoom_next ?_
    split_ifs with hrx
    · exact (rxNotEmpty_iff s).1 hrx
    · exact trivial
    · exact endExchange_room p
  | pop =>
    rw [captureStep]
    exact keepsRoom_rxPop hs fun _ _ => trivial
  | space =>
    refine keepsRoom_next ?_
    split_ifs with hroom
    · exact (txNotFull_iff s).1 hroom
    · exact trivial
  | push => exact keepsRoom_txPush hs trivial
  | exitLink => exact keepsRoom_linkConfigure fun _ _ => trivial
  | _ => exact keepsRoom_next trivial

theorem acknowledge_room (p : Params) : RoomInv (acknowledge p s) := by
  rw [acknowledge]
  split <;> exact trivial

theorem periodicStep_keepsRoom {p : Params} {pt : PerPt} (hs : RoomInv (goTo (.per pt) s)) :
    KeepsRoom (periodicStep p pt s) := by
  cases pt with
  | fifoClear => exact keepsRoom_next ⟨le_rfl, by decide⟩
  | fill k =>
    obtain ⟨hle, hlt⟩ : s.txf.length ≤ k ∧ k < 8 := hs
    refine keepsRoom_txPush (by omega) ?_
    split_ifs with hmore
    · exact ⟨by simpa using hle, hmore⟩
    · exact trivial
  | awaitRx cs =>
    refine keepsRoom_next ?_
    split_ifs with hrx
    · exact (rxNotEmpty_iff s).1 hrx
    · exact trivial
    · exact trivial
  | awaitPop =>
    rw [periodicStep]
    refine keepsRoom_rxPop hs fun v vs => ?_
    rw [afterFirstByte]
    split_ifs <;> exact trivial
  | classify => exact keepsRoom_next (acknowledge_room p)
  | respondSpace i =>
    refine keepsRoom_next ?_
    split_ifs with hroom
    · exact (txNotFull_iff s).1 hroom
    · exact trivial
  | respondPush i =>
    refine keepsRoom_txPush hs ?_
    split_ifs <;> exact trivial
  | loopTest | waitEdge | respondCs i | respondEmpty i | unmask abort =>
    refine keepsRoom_next ?_
    split_ifs <;> exact trivial
  | _ => exact keepsRoom_next trivial

theorem dispatched_room (h : Dispatched s t) : RoomInv t := by
  cases h with
  | sends f hlen htxf => exact ⟨by simp [htxf], by simp [preloadCount]; omega⟩
  | captures => exact rfl
  | _ => exact trivial

/-- A command is refused at most for a word in flight (U7). -/
theorem exec_keepsRoom {i : Instr} (hq : s.seq = .dispatch) : KeepsRoom (exec i s) := by
  refine ⟨?_, fun t h => dispatched_room (exec_dispatched hq h)⟩
  have hsend (f : List Byte) : NoFifoMisuse (beginSend Config.machine f s) := by
    rw [beginSend_eq]
    exact ⟨nofun, nofun⟩
  cases i with
  | getDeviceInfo | getTransferInfo | getPeriodicInterruptInfo => exact hsend _
  | captureNextTransfer l m sv rv =>
    refine (keepsRoom_linkConfigure fun u htxf => ?_).1
    exact htxf
  | startPeriodicInterrupts f d =>
    rw [exec, execStartPeriodicInterrupts, beginPeriodic]
    split <;> exact ⟨nofun, nofun⟩
  | acknowledgeInterrupt =>
    rw [exec_acknowledgeInterrupt_of_ne_classify (by simp [hq])]
    exact ⟨nofun, nofun⟩

theorem mainFlow_keepsRoom (hs : RoomInv s) : KeepsRoom (mainFlow s) := by
  have hat {q : Seq} (hq : s.seq = q) : RoomInv (goTo q s) := by rwa [goTo_of_seq_eq hq]
  rw [mainFlow]
  split
  next => exact keepsRoom_next hs
  next pt hq => exact initStep_keepsRoom _ pt
  next => exact keepsRoom_next hs
  next pt hq => exact recvStep_keepsRoom (hat hq)
  next r pt hq => exact drainStep_keepsRoom (hat hq)
  next hq =>
    rw [dispatchStep]
    split
    · exact exec_keepsRoom hq
    · exact keepsRoom_next trivial
  next pt hq => exact sendStep_keepsRoom (hat hq)
  next pt hq => exact captureStep_keepsRoom (hat hq)
  next pt hq =>
    rw [periodicTurn]
    split_ifs with hpt
    · rw [exec_acknowledgeInterrupt_of_classify (hpt ▸ hq)]
      exact keepsRoom_next (acknowledge_room _)
    · exact periodicStep_keepsRoom (hat hq)

theorem turn_keepsRoom (m : Move) (hs : RoomInv s) : KeepsRoom (turn m s) := by
  cases m with
  | main =>
    rw [turn, mainTurn]
    split_ifs
    · exact mainFlow_keepsRoom hs
    · exact keepsRoom_next hs
  | handler => exact keepsRoom_next (by rw [handlerStep_frame]; exact hs)
  | tick => exact keepsRoom_next (by rw [tickStep_frame]; exact hs)
  | wordStart => exact keepsRoom_next (controllerTurn_room hs .wordStart)
  | sckFall => exact keepsRoom_next (controllerTurn_room hs .sckFall)
  | wordEnd c => exact keepsRoom_next (controllerTurn_room hs (.wordEnd c))
  | csAssert => exact keepsRoom_next (controllerTurn_room hs .csAssert)
  | csDeassert => exact keepsRoom_next (controllerTurn_room hs .csDeassert)
  | callInit =>
    rw [turn, hostInit]
    split_ifs
    · exact keepsRoom_refused (by simp) (by simp)
    · exact keepsRoom_next trivial
    · exact keepsRoom_refused (by simp) (by simp)
  | callPoll =>
    rw [turn, hostPoll]
    split_ifs
    · exact keepsRoom_refused (by simp) (by simp)
    · split
      case h_1 => exact keepsRoom_next trivial
      all_goals exact keepsRoom_refused (by simp) (by simp)

end Room

/-- Settles O57: each push and pop stands behind a status read or a count that the room invariant carries to it. -/
theorem fifoPreconditionsHold : Obligations.FifoPreconditionsHold := by
  intro s hs
  change KeepsRoom (step s)
  match htape : s.tape with
  | [] =>
    rw [step_nil htape]
    exact turn_keepsRoom _ hs
  | m :: rest =>
    rw [step_cons htape]
    exact turn_keepsRoom m (s := { s with tape := rest }) hs

end Sys2Proof.Safety

namespace Sys2Proof.Safety

open Sys2Proof.Machine

/-! ### Every unit idle outside the engine that uses it (R216, R275, R340, R375)

`step_keeps_at` writes the position into the state before, so the regions of both states compute: a turn's proof is the old
invariant with the clauses named that the turn touches. -/

section Engines

variable {s t : State}

theorem outputLive_of_periodLive {q : Seq} (h : periodLive q = true) : outputLive q = true := by
  unfold outputLive
  split
  · rfl
  · exact h

theorem edgeStatusLive_of_edgeLive {q : Seq} (h : edgeLive q = true) : edgeStatusLive q = true := by
  unfold edgeStatusLive
  split
  · rfl
  · exact h

/-- A timer that is off in every respect has the form `TimerReset()` and a high output leave (R356). -/
theorem timer_eq_idle {u : Timer} (hcnt : u.cnt = 0) (hcap : u.cap = 0) (hen : u.en = false) (harm : u.capArm = false)
    (hper : u.perEn = false) (hovf : u.ovfEn = false) (hirq : u.irqEn = false) (hpend : u.irqPend = false)
    (hemo : u.emo = true) :
    u = { u with
      en := false, cnt := 0, cap := 0, capArm := false, perEn := false, ovfEn := false, irqEn := false,
      irqPend := false, emo := true } := by
  cases u
  simp_all

/-- At the idle dispatcher no region is live, so every unit is in its idle condition. -/
theorem unitsIdle_of_engineInv (hs : EngineInv s) (hq : s.seq = .idle) : UnitsIdle s := by
  rw [← goTo_of_seq_eq hq] at hs
  have hoff {b : Bool} (h : b = true → false = true) : b = false := by simpa using h
  have hirq : s.timer.irqEn = false := hoff hs.irqEnable
  have hidle : s.handler = .notRunning := by
    by_contra hrun
    simpa [hirq] using hs.handlerRuns hrun
  have hpin : s.pinFunc = .plainIO := by
    cases hp : s.pinFunc
    · exact nomatch hs.pin hp
    · rfl
  have hemo : s.timer.emo = true := by
    cases he : s.timer.emo
    · exact nomatch hs.output he
    · rfl
  have hedge : s.edge = { en := false, status := false } :=
    congrArg₂ EdgeDetector.mk (hoff hs.edge) (hoff hs.edgeStatus)
  have hcnt : s.timer.cnt = 0 := hs.count rfl
  have hcap : s.timer.cap = 0 := hs.capture (.inl rfl)
  exact ⟨hs.mask, hidle, hs.width rfl rfl, hpin, hoff hs.indicator, hedge,
    timer_eq_idle hcnt hcap (hoff hs.counter) (hoff hs.captureArm) (hoff hs.periodMatch) (hoff hs.overflowMatch) hirq
      (hoff hs.irqPending) hemo⟩

theorem initStep_keeps_engineInv {pt : InitPt} (hh : s.handler = .notRunning) (hs : EngineInv (goTo (.init pt) s))
    (h : initStep Config.machine pt s = .next t) : EngineInv t := by
  cases pt with
  | link =>
    obtain ⟨u, hu, rfl⟩ := onNext_next_iff.1 h
    obtain ⟨-, rfl⟩ := linkConfigureIdle_next machine_wf hu
    exact { hs with width := fun _ _ => rfl, captureWidth := nofun }
  | timerReset =>
    obtain rfl := Host.Outcome.next.inj h
    exact { hs with
      periodMatch := nofun, irqEnable := nofun, irqPending := nofun, handlerRuns := (absurd hh ·)
      overflowMatch := nofun, captureArm := nofun, counter := nofun, count := fun _ => rfl, capture := fun _ => rfl }
  | edgeDisable =>
    obtain rfl := Host.Outcome.next.inj h
    exact { hs with edge := nofun }
  | edgeClear =>
    obtain rfl := Host.Outcome.next.inj h
    exact { hs with edgeStatus := nofun }
  | edgeOutHigh =>
    obtain rfl := Host.Outcome.next.inj h
    exact { hs with output := nofun }
  | pinPlain =>
    obtain rfl := Host.Outcome.next.inj h
    exact { hs with pin := nofun }
  | indicatorOff =>
    obtain rfl := Host.Outcome.next.inj h
    exact { hs with indicator := nofun }
  | unmask =>
    obtain rfl := Host.Outcome.next.inj h
    exact { hs with mask := rfl, handlerRuns := (absurd hh ·) }

theorem recvStep_keeps_engineInv {pt : RecvPt} (hs : EngineInv (goTo (.recv pt) s)) (h : recvStep pt s = .next t) :
    EngineInv t := by
  rw [recvStep_frame h]
  obtain ⟨_, hq⟩ | hq | hq := recvStep_leads h <;> rw [hq] <;> exact { hs with }

theorem drainStep_keeps_engineInv {r : DrainRet} {pt : DrainPt} (hs : EngineInv (goTo (.drain r pt) s))
    (h : drainStep r pt s = .next t) : EngineInv t := by
  obtain ⟨pt', hq, -⟩ | rfl := drainStep_leads h
  · rw [drainStep_frame h, hq]
    cases r <;> exact { hs with }
  · cases r <;> exact { hs with }

theorem sendStep_keeps_engineInv {pt : SendPt} (hh : s.handler = .notRunning) (hs : EngineInv (goTo (.send pt) s))
    (h : sendStep pt s = .next t) : EngineInv t := by
  have hmask := sendStep_mask (s := s) hs.mask h
  rw [sendStep_frame h]
  obtain ⟨_, hq⟩ | hq := sendStep_leads h <;> rw [hq] at hmask ⊢ <;>
    exact { hs with mask := hmask, handlerRuns := (absurd hh ·) }

theorem dispatched_keeps_engineInv (hs : EngineInv (goTo .dispatch s)) (h : Dispatched s t) : EngineInv t := by
  cases h with
  | sends | abandons | ignores | arms => exact { hs with }
  | captures l =>
    have hrange := effBits_range Config.machine l machine_wf
    exact { hs with width := nofun, captureWidth := fun _ => ⟨hrange.1, hrange.2, rfl⟩ }
  | overflows | completes =>
    exact { hs with
      periodMatch := fun _ => rfl, irqEnable := fun _ => rfl, irqPending := fun _ => rfl, counter := fun _ => rfl
      count := nofun, capture := fun _ => hs.capture (.inl rfl), output := fun _ => rfl, pin := fun _ => rfl
      edge := fun _ => rfl, edgeStatus := fun _ => rfl, indicator := fun _ => rfl }

theorem captureStep_keeps_engineInv {pt : CapPt} (hh : s.handler = .notRunning) (hs : EngineInv (goTo (.cap pt) s))
    (h : captureStep Config.machine pt s = .next t) : EngineInv t := by
  cases pt with
  | timerReset | exitTimer =>
    obtain rfl := Host.Outcome.next.inj h
    exact { hs with
      periodMatch := nofun, irqEnable := nofun, irqPending := nofun, handlerRuns := (absurd hh ·)
      overflowMatch := nofun, captureArm := nofun, counter := nofun, count := fun _ => rfl, capture := fun _ => rfl }
  | overflowEnable =>
    obtain rfl := Host.Outcome.next.inj h
    exact { hs with overflowMatch := fun _ => rfl }
  | captureArm =>
    obtain rfl := Host.Outcome.next.inj h
    exact { hs with captureArm := fun _ => rfl, capture := fun _ => hs.capture (.inl rfl) }
  | enable =>
    obtain rfl := Host.Outcome.next.inj h
    exact { hs with counter := fun _ => rfl, count := nofun, capture := fun hlive => hlive.elim nofun nofun }
  | preload k =>
    obtain ⟨-, rfl⟩ := onNext_txPush_next h
    split_ifs <;> exact { hs with }
  | push =>
    obtain ⟨-, rfl⟩ := onNext_txPush_next h
    exact { hs with }
  | pop =>
    rw [captureStep] at h
    obtain ⟨v, vs, -, rfl⟩ := rxPop_next h
    exact { hs with }
  | rx cs =>
    obtain rfl := Host.Outcome.next.inj h
    split_ifs
    · exact { hs with }
    · exact { hs with }
    · rw [endExchange]
      split <;> exact { hs with }
  | exitLink =>
    obtain ⟨u, hu, rfl⟩ := onNext_next_iff.1 h
    obtain ⟨-, rfl⟩ := linkConfigureIdle_next machine_wf hu
    exact { hs with width := fun _ _ => rfl, captureWidth := nofun }
  | poll k | overflowTest cap2 | waitCs | pollRx cs | space =>
    obtain rfl := Host.Outcome.next.inj h
    split_ifs <;> exact { hs with }
  | _ =>
    obtain rfl := Host.Outcome.next.inj h
    exact { hs with }

theorem periodicStep_keeps_engineInv {p : Params} {pt : PerPt} (hh : s.handler = .notRunning)
    (hs : EngineInv (goTo (.per pt) s)) (h : periodicStep p pt s = .next t) : EngineInv t := by
  cases pt with
  | armTimerReset | drainTimerReset =>
    obtain rfl := Host.Outcome.next.inj h
    exact { hs with
      periodMatch := nofun, irqEnable := nofun, irqPending := nofun, handlerRuns := (absurd hh ·)
      overflowMatch := nofun, captureArm := nofun, counter := nofun, count := fun _ => rfl, capture := fun _ => rfl }
  | armPeriodEnable =>
    obtain rfl := Host.Outcome.next.inj h
    exact { hs with periodMatch := fun _ => rfl, output := fun _ => rfl }
  | armIrqEnable =>
    obtain rfl := Host.Outcome.next.inj h
    exact { hs with irqEnable := fun _ => rfl, irqPending := fun _ => rfl, handlerRuns := (absurd hh ·) }
  | armPin =>
    obtain rfl := Host.Outcome.next.inj h
    exact { hs with pin := fun _ => rfl }
  | armEdge =>
    obtain rfl := Host.Outcome.next.inj h
    exact { hs with edge := fun _ => rfl, edgeStatus := fun _ => rfl }
  | armIndicator =>
    obtain rfl := Host.Outcome.next.inj h
    exact { hs with indicator := fun _ => rfl }
  | armCounter =>
    obtain rfl := Host.Outcome.next.inj h
    exact { hs with counter := fun _ => rfl, count := nofun, capture := fun _ => hs.capture (.inl rfl) }
  | edgeClear | drainEdgeClear =>
    obtain rfl := Host.Outcome.next.inj h
    exact { hs with edgeStatus := nofun }
  | deassert | drainDeassert =>
    obtain rfl := Host.Outcome.next.inj h
    exact { hs with output := nofun }
  | mask =>
    obtain rfl := Host.Outcome.next.inj h
    exact { hs with mask := rfl, handlerRuns := (absurd hh ·) }
  | unmask abort =>
    obtain rfl := Host.Outcome.next.inj h
    cases abort <;> exact { hs with mask := rfl, handlerRuns := (absurd hh ·) }
  | drainEdgeDisable =>
    obtain rfl := Host.Outcome.next.inj h
    exact { hs with edge := nofun }
  | drainPin =>
    obtain rfl := Host.Outcome.next.inj h
    exact { hs with pin := nofun }
  | drainIndicator =>
    obtain rfl := Host.Outcome.next.inj h
    exact { hs with indicator := nofun }
  | fill k | respondPush k =>
    obtain ⟨-, rfl⟩ := onNext_txPush_next h
    split_ifs <;> exact { hs with }
  | awaitPop =>
    rw [periodicStep] at h
    obtain ⟨v, vs, -, rfl⟩ := rxPop_next h
    rw [afterFirstByte]
    split_ifs <;> exact { hs with }
  | classify =>
    obtain rfl := Host.Outcome.next.inj h
    rw [acknowledge_frame]
    obtain hq | hq := acknowledge_leads p s <;> rw [hq] <;> exact { hs with }
  | loopTest | waitEdge | awaitRx cs | respondCs i | respondEmpty i | respondSpace i =>
    obtain rfl := Host.Outcome.next.inj h
    split_ifs <;> exact { hs with }
  | _ =>
    obtain rfl := Host.Outcome.next.inj h
    exact { hs with }

theorem handlerStep_keeps_engineInv (hs : EngineInv s) : EngineInv (handlerStep s) := by
  rw [handlerStep]
  split
  next =>
    split_ifs with hstart
    · obtain ⟨-, hen, hmask⟩ := (handlerMayStart_iff s).1 hstart
      exact { hs with irqPending := nofun, handlerRuns := fun _ => ⟨hen, hmask⟩ }
    · exact hs
  next hh =>
    have hruns := hs.handlerRuns (by simp [hh])
    rw [handlerDecrement]
    split_ifs
    · exact { hs with handlerRuns := fun _ => hruns }
    · exact { hs with handlerRuns := nofun }
  next hh => exact { hs with periodMatch := nofun, handlerRuns := fun _ => hs.handlerRuns (by simp [hh]) }
  next => exact { hs with irqEnable := nofun, handlerRuns := nofun }

/-- A tick changes the counter only where it may run, and the output and the request only at a period match. -/
theorem tickStep_keeps_engineInv (hs : EngineInv s) : EngineInv (tickStep s) := by
  rw [tickStep]
  split_ifs with hen
  · have hlive : counterLive s.seq = true := hs.counter hen
    have hcount {P : Prop} (h : counterLive s.seq = false) : P := by simp [hlive] at h
    rw [tickTimer]
    split_ifs with hmatch
    · have hper : s.timer.perEn = true := by simp_all [periodMatches]
      have hpend (h : (s.timer.irqPend || s.timer.irqEn) = true) : irqLive s.seq = true :=
        (Bool.or_eq_true_iff.1 h).elim hs.irqPending hs.irqEnable
      exact { hs with
        irqPending := hpend, counter := fun _ => hlive, count := hcount
        output := fun _ => outputLive_of_periodLive (hs.periodMatch hper) }
    · exact { hs with counter := fun _ => hlive, count := hcount }
  · exact hs

/-- A falling edge latches the counter only where the channel is armed and the counter runs (R82). -/
theorem sckFall_keeps_engineInv (hs : EngineInv s) : EngineInv (sckFall s) := by
  rw [sckFall]
  split_ifs
  · rw [captureLatch_eq, edgeDetect_eq]
    refine { hs with capture := fun hoff => ?_, edgeStatus := fun hst => ?_ }
    · dsimp only
      rw [if_neg, hs.capture hoff]
      rintro ⟨harm, hen⟩
      simp [hs.captureArm harm, hs.counter hen] at hoff
    · obtain hst | hen := Bool.or_eq_true_iff.1 hst
      · exact hs.edgeStatus hst
      · exact edgeStatusLive_of_edgeLive (hs.edge hen)
  · exact hs

theorem controllerTurn_keeps_engineInv (hs : EngineInv s) (h : ControllerTurn s t) : EngineInv t := by
  cases h with
  | wordStart =>
    rw [wordStart]
    split_ifs
    · split <;> exact { hs with }
    · exact hs
  | sckFall => exact sckFall_keeps_engineInv hs
  | wordEnd c =>
    rw [wordEnd]
    split
    · exact { hs with }
    · exact hs
  | csAssert =>
    rw [csAssert]
    split_ifs
    · exact hs
    · exact { hs with }
  | csDeassert =>
    rw [csDeassert]
    split_ifs
    · exact { hs with }
    · exact hs

end Engines

/-- Settles O58: each turn touches the clauses of the unit it writes, and at the idle dispatcher no region is live. -/
theorem engineInvIsKept : Obligations.EngineInvIsKept := by
  refine fun s hs => ⟨unitsIdle_of_engineInv hs, fun t h => ?_⟩
  exact step_keeps_at (I := EngineInv) (fun _ _ hs => { hs with }) (fun _ s _ => initStep_keeps_engineInv (s := s))
    (fun _ s _ _ => recvStep_keeps_engineInv (s := s)) (fun _ _ s _ _ => drainStep_keeps_engineInv (s := s))
    (fun s _ _ => dispatched_keeps_engineInv (s := s)) (fun _ s _ => sendStep_keeps_engineInv (s := s))
    (fun _ s _ => captureStep_keeps_engineInv (s := s)) (fun _ s _ => periodicStep_keeps_engineInv (s := s))
    (fun _ => handlerStep_keeps_engineInv) (fun _ => tickStep_keeps_engineInv)
    (fun _ _ h hs => controllerTurn_keeps_engineInv hs h) (fun _ _ hs => { hs with }) (fun _ _ hs => { hs with }) hs h

end Sys2Proof.Safety

namespace Sys2Proof.Safety

open Sys2Proof.Machine

/-! ### Reset (R48) -/

theorem engineInv_reset : EngineInv State.reset where
  mask := rfl
  periodMatch := nofun
  irqEnable := nofun
  irqPending := nofun
  handlerRuns := nofun
  overflowMatch := nofun
  captureArm := nofun
  counter := nofun
  count := fun _ => rfl
  capture := fun _ => rfl
  output := nofun
  pin := nofun
  edge := nofun
  edgeStatus := nofun
  indicator := nofun
  width := fun _ => nofun
  captureWidth := nofun

/-- Settles O55: at reset everything is off, and the configuration's opcodes are distinct. -/
theorem invariantsHoldAtReset : Obligations.InvariantsHoldAtReset :=
  ⟨reset_fifosWf, ⟨nofun, fun _ => rfl⟩, trivial, engineInv_reset, trivial, .of_outside rfl rfl rfl rfl, .of_zero rfl, rfl,
    reset_opcodes_wf⟩

end Sys2Proof.Safety

namespace Sys2Proof.Machine

open Sys2Proof.Safety

/-! ### Several turns in a row -/

section Turns

variable {s t : State} {k : Nat}

@[simp] theorem spent_spent (i j : Nat) (s : State) : spent i (spent j s) = spent (j + i) s := by
  simp [spent, List.drop_drop]

theorem spent_goTo (k : Nat) (q : Seq) (s : State) : spent k (goTo q s) = goTo q (spent k s) := rfl

/-- One of the promised turns: what it leaves to be run, and that the rest are still promised. -/
theorem main_turn {q : Seq} (h : MainFor (k + 1) q s) (ht : step s = .next t) (hh : t.handler = s.handler)
    (htape : t.tape = s.tape.drop 1) : runs (k + 1) s = runs k t ∧ MainFor k t.seq t :=
  ⟨runs_succ_next ht, MainFor_next h rfl hh htape⟩

/-- The first of the promised turns, alone. -/
theorem MainFor_mono {j : Nat} {q : Seq} (h : MainFor (j + k) q s) : MainFor j q s := by
  obtain ⟨hq, hidle, htape⟩ := h
  refine ⟨hq, hidle, ?_⟩
  have htake := congrArg (List.take j) htape
  simpa [List.take_take] using htake

/-- A run that spends `j` turns and leaves the handler alone, then the turns that follow it. -/
theorem runs_then {j : Nat} {q q' : Seq} (h : MainFor (j + k) q s) (hruns : runs j s = .next t) (hq : t.seq = q')
    (hh : t.handler = s.handler) (htape : t.tape = s.tape.drop j) : runs (j + k) s = runs k t ∧ MainFor k q' t :=
  ⟨runs_add hruns, MainFor_of_spent h hq hh htape⟩

/-- A run whose states are known one by one. -/
theorem runs_of_steps {st : Nat → State} {n : Nat} (h : ∀ i < n, step (st i) = .next (st (i + 1))) :
    runs n (st 0) = .next (st n) := by
  induction n with
  | zero => rfl
  | succ n ih => rw [runs_add (ih fun i hi => h i (hi.trans n.lt_succ_self)), runs_one, h n n.lt_succ_self]

/-- One step on the main flow's turn inside `Send` (R162). -/
theorem step_send {pt : SendPt} (h : MainFor (k + 1) (.send pt) s) : step s = sendStep pt (spent 1 s) := by
  have hq : (spent 1 s).seq = .send pt := h.1
  rw [step_main h, mainFlow, hq]

/-- A turn inside `Send`, and what it leaves to be run. -/
theorem send_turn {pt : SendPt} (h : MainFor (k + 1) (.send pt) s) (ht : sendStep pt (spent 1 s) = .next t)
    (hh : t.handler = s.handler) (htape : t.tape = s.tape.drop 1) : runs (k + 1) s = runs k t ∧ MainFor k t.seq t :=
  main_turn h (by rw [step_send h, ht]) hh htape

end Turns

/-! ### `Send` (R162 to R167) -/

section Sending

variable {s : State}

/-- On the 8-bit link a byte is queued uncut. -/
theorem txPush_byte (hroom : s.txf.length < 8) (hbits : s.link.bits = 8) (b : Byte) :
    txPush (b.setWidth 16) s = .next { s with txf := s.txf ++ [b.setWidth 16] } := by
  rw [txPush_of_room hroom, hbits]
  exact congrArg (fun w => Host.Outcome.next { s with txf := s.txf ++ [w] }) (byte_and_mask b)

/-- The state when `k` turns have queued the first `k` bytes of the frame, into an empty `TXF` (R164). -/
def sendPreloaded (s : State) (k : Nat) : State :=
  { spent k s with
    txf := (s.frame.take k).map (BitVec.setWidth 16)
    seq := if k < preloadCount s.frame then .send (.preload k) else .send .waitCs }

theorem sendStep_preload {k : Nat} (hk : k < preloadCount s.frame) (hbits : s.link.bits = 8) :
    sendStep (.preload k) (spent 1 (sendPreloaded s k)) = .next (sendPreloaded s (k + 1)) := by
  obtain ⟨hlen, h8⟩ : k < s.frame.length ∧ k < 8 := lt_min_iff.1 hk
  have hroom : (spent 1 (sendPreloaded s k)).txf.length < 8 := by
    simp only [spent, sendPreloaded, List.length_map, List.length_take]
    omega
  have htake : s.frame.take (k + 1) = s.frame.take k ++ [s.frame[k]] := List.take_succ_eq_append_getElem hlen
  have hbyte : s.frame.getD k 0 = s.frame[k] := by simp [hlen]
  rw [sendStep, txPush_byte hroom hbits]
  simp only [onNext, goTo, sendPreloaded, spent, afterPreload, htake, List.map_append, List.map_cons, List.map_nil,
    hbyte, List.drop_drop]

theorem sendPreloaded_zero (hq : s.seq = .send (.preload 0)) (hframe : s.frame ≠ []) (htxf : s.txf = []) :
    sendPreloaded s 0 = s := by
  have hpos : 0 < preloadCount s.frame := lt_min (List.length_pos_iff.2 hframe) (by decide)
  rw [sendPreloaded, if_pos hpos, ← hq, List.take_zero, List.map_nil, ← htxf]
  rfl

end Sending

/-- Settles O15: one turn a byte, from an empty `TXF` on. -/
theorem sendPreloadsTheFirstBytes : Obligations.SendPreloadsTheFirstBytes := by
  intro s h hframe htxf hbits
  change MainFor (preloadCount s.frame) _ s at h
  have hturns : ∀ k < preloadCount s.frame, step (sendPreloaded s k) = .next (sendPreloaded s (k + 1)) := fun k hk => by
    obtain ⟨j, hj⟩ : ∃ j, preloadCount s.frame = k + (j + 1) := ⟨preloadCount s.frame - k - 1, by omega⟩
    rw [hj] at h
    have hmain : MainFor (j + 1) (.send (.preload k)) (sendPreloaded s k) := MainFor_of_spent h (if_pos hk) rfl rfl
    rw [step_send hmain, sendStep_preload hk hbits]
  have hruns := runs_of_steps hturns
  rw [sendPreloaded_zero h.1 hframe htxf] at hruns
  have htake : s.frame.take (preloadCount s.frame) = s.frame.take 8 := by
    rw [preloadCount, Nat.min_comm, ← List.take_eq_take_min]
  rw [← preloadCount, hruns, sendPreloaded, if_neg (lt_irrefl _), htake]

/-! #### The positions of the streaming loop (R165 to R167) -/

section Streaming

variable {s : State} (i : Nat)

theorem sendStep_waitCs_of_asserted (h : s.cs = true) : sendStep .waitCs s = .next (goTo (.send .mask) s) := by
  rw [sendStep, csAsserted_eq, if_pos h]

theorem sendStep_waitCs_of_deasserted (h : s.cs = false) : sendStep .waitCs s = .next (goTo (.send .waitCs) s) := by
  rw [sendStep, csAsserted_eq, if_neg (by simp [h])]

theorem sendStep_mask :
    sendStep .mask s =
      .next { s with imask := true, seq := if 8 < s.frame.length then .send (.cs 8) else .send .unmask } := by
  have hloop : sendLoop s.frame (preloadCount s.frame) = if 8 < s.frame.length then .send (.cs 8) else .send .unmask := by
    by_cases h8 : 8 < s.frame.length
    · rw [sendLoop, preloadCount, min_eq_right h8.le, if_pos h8]
    · rw [sendLoop, preloadCount, min_eq_left (not_lt.1 h8), if_neg (lt_irrefl _), if_neg h8]
  rw [sendStep, hloop]
  rfl

theorem sendStep_cs_of_asserted (h : s.cs = true) : sendStep (.cs i) s = .next (goTo (.send (.underrun i)) s) := by
  rw [sendStep, csAsserted_eq, if_pos h]

theorem sendStep_cs_of_deasserted (h : s.cs = false) : sendStep (.cs i) s = .next (goTo (.send .unmask) s) := by
  rw [sendStep, csAsserted_eq, if_neg (by simp [h])]

/-- An empty `TXF` is logged and is not fatal (R166). -/
theorem sendStep_underrun :
    sendStep (.underrun i) s =
      .next { s with
        log := if s.txf = [] then s.log ++ [.sendUnderrun] else s.log
        seq := .send (.space i) } := by
  rw [sendStep]
  by_cases h : s.txf = [] <;> simp [h, txEmpty, goTo, logEvent]

theorem sendStep_space_of_room (h : s.txf.length < 8) : sendStep (.space i) s = .next (goTo (.send (.push i)) s) := by
  rw [sendStep, if_pos ((txNotFull_iff s).2 h)]

theorem sendStep_space_of_full (h : 8 ≤ s.txf.length) : sendStep (.space i) s = .next (goTo (.send (.cs i)) s) := by
  rw [sendStep, if_neg (by simpa using h)]

theorem sendStep_push (hroom : s.txf.length < 8) (hbits : s.link.bits = 8) :
    sendStep (.push i) s =
      .next { s with
        txf := s.txf ++ [(s.frame.getD i 0).setWidth 16]
        seq := if i + 1 < s.frame.length then .send (.cs (i + 1)) else .send .unmask } := by
  rw [sendStep, txPush_byte hroom hbits]
  rfl

end Streaming

/-- Settles O16: each clause runs the turns of its positions; the four of a pass look at chip-select, at an empty `TXF` and at
its space, and push. -/
theorem sendStreamsTheRemainingBytes : Obligations.SendStreamsTheRemainingBytes := by
  intro s i
  refine ⟨fun h hcs hroom hbits _ => ?pass, fun h hcs hfull => ?full, fun h hcs => ?deasserted, fun h => ?unmask,
    fun h hcs => ?waits, fun h hcs => ?starts⟩
  case pass =>
    obtain ⟨h1, h⟩ := send_turn h (sendStep_cs_of_asserted i hcs) rfl rfl
    obtain ⟨h2, h⟩ := send_turn h (sendStep_underrun i) rfl rfl
    obtain ⟨h3, h⟩ := send_turn h (sendStep_space_of_room i hroom) rfl rfl
    obtain ⟨h4, -⟩ := send_turn h (sendStep_push i hroom hbits) rfl rfl
    rw [h1, h2, h3, h4, runs_zero]
    simp [goTo, spent]
  case full =>
    have hq : s.seq = .send (.cs i) := h.1
    have hlog : s.txf ≠ [] := List.ne_nil_of_length_pos (by omega)
    obtain ⟨h1, h⟩ := send_turn h (sendStep_cs_of_asserted i hcs) rfl rfl
    obtain ⟨h2, h⟩ := send_turn h (sendStep_underrun i) rfl rfl
    obtain ⟨h3, -⟩ := send_turn h (sendStep_space_of_full i hfull) rfl rfl
    rw [h1, h2, h3, runs_zero]
    simp [goTo, spent, hlog, hq]
  case deasserted =>
    obtain ⟨h1, h⟩ := send_turn h (sendStep_cs_of_deasserted i hcs) rfl rfl
    obtain ⟨h2, -⟩ := send_turn h rfl rfl rfl
    rw [h1, h2, runs_zero]
    simp [goTo, spent, setIntMask]
  case unmask => exact step_send h
  case waits => rw [step_send h, sendStep_waitCs_of_deasserted (s := spent 1 s) hcs, goTo_of_seq_eq (s := spent 1 s) h.1]
  case starts =>
    obtain ⟨h1, h⟩ := send_turn h (sendStep_waitCs_of_asserted hcs) rfl rfl
    obtain ⟨h2, -⟩ := send_turn h sendStep_mask rfl rfl
    rw [h1, h2, runs_zero]
    simp [goTo, spent]

end Sys2Proof.Machine

namespace Sys2Proof.Machine

open Sys2Proof.Safety

/-! ### `DrainExchange` (R15) -/

section Draining

variable {s t : State} {k : Nat} {r : DrainRet}

/-- A turn inside `DrainExchange`, and what it leaves to be run. -/
theorem drain_turn {d : DrainPt} (h : MainFor (k + 1) (.drain r d) s) (ht : drainStep r d (spent 1 s) = .next t)
    (hh : t.handler = s.handler) (htape : t.tape = s.tape.drop 1) : runs (k + 1) s = runs k t ∧ MainFor k t.seq t :=
  main_turn h (by rw [step_drain h, ht]) hh htape

theorem drainStep_cs {cs : Bool} (h : s.cs = cs) : drainStep r .cs s = .next (goTo (.drain r (.rx cs)) s) := by
  rw [drainStep, csAsserted_eq, h]

theorem drainStep_rx_of_word (cs : Bool) (h : s.rxf ≠ []) : drainStep r (.rx cs) s = .next (goTo (.drain r .pop) s) := by
  rw [drainStep, if_pos ((rxNotEmpty_iff s).2 h)]

theorem drainStep_rx_of_asserted (h : s.rxf = []) : drainStep r (.rx true) s = .next (goTo (.drain r .cs) s) := by
  rw [drainStep, if_neg (by simpa using h), if_pos rfl]

theorem drainStep_rx_of_deasserted (h : s.rxf = []) : drainStep r (.rx false) s = .next (afterDrain r s) := by
  rw [drainStep, if_neg (by simpa using h), if_neg (by decide)]

/-- Three turns discard one word, whatever chip-select is. -/
theorem runs_drain_word {w : Word} {ws : List Word} (h : MainFor 3 (.drain r .cs) s) (hrxf : s.rxf = w :: ws) :
    runs 3 s = .next { spent 3 s with rxf := ws } := by
  have hq : s.seq = .drain r .cs := h.1
  have hne : s.rxf ≠ [] := by simp [hrxf]
  obtain ⟨h1, h⟩ := drain_turn h rfl rfl rfl
  obtain ⟨h2, h⟩ := drain_turn h (drainStep_rx_of_word _ hne) rfl rfl
  obtain ⟨h3, -⟩ := drain_turn h (rxPop_of_cons hrxf) rfl rfl
  rw [h1, h2, h3, runs_zero]
  simp [goTo, spent, hq]

/-- Where the drain stood does not matter to the caller. -/
theorem afterDrain_goTo (r : DrainRet) (q : Seq) (s : State) : afterDrain r (goTo q s) = afterDrain r s := by
  cases r <;> rfl

/-- Two turns find the exchange over and return to the caller. -/
theorem runs_drain_end (h : MainFor 2 (.drain r .cs) s) (hcs : s.cs = false) (hrxf : s.rxf = []) :
    runs 2 s = .next (afterDrain r (spent 2 s)) := by
  obtain ⟨h1, h⟩ := drain_turn h (drainStep_cs hcs) rfl rfl
  rw [h1, runs_one, step_drain h, drainStep_rx_of_deasserted (by exact hrxf), spent_goTo, spent_spent, afterDrain_goTo]

/-- With chip-select deasserted every word goes, three turns each, and two turns return to the caller. -/
theorem runs_drain (ws : List Word) (s : State) (h : MainFor (3 * ws.length + 2) (.drain r .cs) s) (hcs : s.cs = false)
    (hrxf : s.rxf = ws) :
    runs (3 * ws.length + 2) s = .next (afterDrain r { spent (3 * ws.length + 2) s with rxf := [] }) := by
  induction ws generalizing s with
  | nil =>
    change runs 2 s = .next (afterDrain r { spent 2 s with rxf := [] })
    rw [runs_drain_end h hcs hrxf, ← hrxf]
    rfl
  | cons w ws ih =>
    have hlen : 3 * (w :: ws).length + 2 = 3 + (3 * ws.length + 2) := by
      rw [List.length_cons]
      omega
    rw [hlen] at h ⊢
    obtain ⟨hrest, hmain⟩ := runs_then h (runs_drain_word (MainFor_mono h) hrxf) h.1 rfl rfl
    rw [hrest, ih _ hmain hcs rfl]
    simp [spent]

end Draining

/-- Settles O17: the words one by one, then the caller's own way on. -/
theorem drainDiscardsAndReturns : Obligations.DrainDiscardsAndReturns := by
  refine ⟨fun s r h hcs => ?_, fun s r w ws h hrxf => runs_drain_word h hrxf, fun s r h hcs hrxf => ?_⟩
  · rw [runs_drain s.rxf s h hcs rfl]
    cases r <;> rfl
  · have hq : s.seq = .drain r .cs := h.1
    obtain ⟨h1, h⟩ := drain_turn h (drainStep_cs hcs) rfl rfl
    obtain ⟨h2, -⟩ := drain_turn h (drainStep_rx_of_asserted hrxf) rfl rfl
    rw [h1, h2, runs_zero]
    simp [goTo, spent, hq]

/-! ### `Receive` (R170 to R174) -/

section Receiving

variable {s t : State} {k : Nat}

/-- One step on the main flow's turn inside `Receive`. -/
theorem step_recv {pt : RecvPt} (h : MainFor (k + 1) (.recv pt) s) : step s = recvStep pt (spent 1 s) := by
  have hq : (spent 1 s).seq = .recv pt := h.1
  rw [step_main h, mainFlow, hq]

/-- A turn inside `Receive`, and what it leaves to be run. -/
theorem recv_turn {pt : RecvPt} (h : MainFor (k + 1) (.recv pt) s) (ht : recvStep pt (spent 1 s) = .next t)
    (hh : t.handler = s.handler) (htape : t.tape = s.tape.drop 1) : runs (k + 1) s = runs k t ∧ MainFor k t.seq t :=
  main_turn h (by rw [step_recv h, ht]) hh htape

theorem recvStep_entry_of_word (h : s.rxf ≠ []) : recvStep .entry s = .next (goTo (.recv (.cs 0)) s) := by
  rw [recvStep, if_pos ((rxNotEmpty_iff s).2 h)]

theorem recvStep_entry_of_nil (h : s.rxf = []) : recvStep .entry s = .next (goTo .idle s) := by
  rw [recvStep, if_neg (by simpa using h)]

theorem recvStep_cs {cs : Bool} (i : Fin 8) (h : s.cs = cs) : recvStep (.cs i) s = .next (goTo (.recv (.rx i cs)) s) := by
  rw [recvStep, csAsserted_eq, h]

theorem recvStep_rx_of_word (i : Fin 8) (cs : Bool) (h : s.rxf ≠ []) :
    recvStep (.rx i cs) s = .next (goTo (.recv (.pop i)) s) := by
  rw [recvStep, if_pos ((rxNotEmpty_iff s).2 h)]

theorem recvStep_rx_of_asserted (i : Fin 8) (h : s.rxf = []) :
    recvStep (.rx i true) s = .next (goTo (.recv (.cs i)) s) := by
  rw [recvStep, if_neg (by simpa using h), if_pos rfl]

theorem recvStep_rx_of_deasserted (i : Fin 8) (h : s.rxf = []) : recvStep (.rx i false) s = .next (goTo .idle s) := by
  rw [recvStep, if_neg (by simpa using h), if_neg (by decide)]

theorem recvStep_pop {w : Word} {ws : List Word} (i : Fin 8) (h : s.rxf = w :: ws) :
    recvStep (.pop i) s = .next { s with rxf := ws, cmd := s.cmd.set i (w.setWidth 8), seq := afterByte i } := by
  rw [recvStep, rxPop_of_cons h]

/-- Three turns take one word into `CMD[i]`, whatever chip-select is. -/
theorem runs_recv_word {w : Word} {ws : List Word} (i : Fin 8) (h : MainFor 3 (.recv (.cs i)) s)
    (hrxf : s.rxf = w :: ws) :
    runs 3 s = .next { spent 3 s with cmd := s.cmd.set i (w.setWidth 8), rxf := ws, seq := afterByte i } := by
  have hne : s.rxf ≠ [] := by simp [hrxf]
  obtain ⟨h1, h⟩ := recv_turn h (recvStep_cs i rfl) rfl rfl
  obtain ⟨h2, h⟩ := recv_turn h (recvStep_rx_of_word i _ hne) rfl rfl
  obtain ⟨h3, -⟩ := recv_turn h (recvStep_pop i hrxf) rfl rfl
  rw [h1, h2, h3, runs_zero]
  simp [goTo, spent]

/-- Where `Receive` stands when it awaits byte `n`, or has taken all 8. -/
def recvAt (n : Nat) : Seq := if h : n < 8 then .recv (.cs ⟨n, h⟩) else .drain .received .cs

/-- `CMD` with the low bytes of the words put in order from byte `n` on. -/
def storeBytes : List Word → Nat → Vector Byte 8 → Vector Byte 8
  | [], _, c => c
  | w :: ws, n, c => storeBytes ws (n + 1) (if h : n < 8 then c.set n (w.setWidth 8) else c)

/-- As many words as there are, three turns each. -/
theorem runs_recv_words (ws : List Word) (n : Nat) (s : State) (hn : n + ws.length ≤ 8)
    (h : MainFor (3 * ws.length) (recvAt n) s) (hrxf : s.rxf = ws) :
    runs (3 * ws.length) s =
      .next { spent (3 * ws.length) s with
        cmd := storeBytes ws n s.cmd, rxf := [], seq := recvAt (n + ws.length) } := by
  induction ws generalizing n s with
  | nil =>
    have hq : s.seq = recvAt n := h.1
    change runs 0 s = .next { spent 0 s with cmd := s.cmd, rxf := [], seq := recvAt n }
    rw [runs_zero, ← hq, ← hrxf]
    rfl
  | cons w ws ih =>
    rw [List.length_cons] at hn
    have hlt : n < 8 := by omega
    have hlen : 3 * (w :: ws).length = 3 + 3 * ws.length := by
      rw [List.length_cons]
      omega
    rw [recvAt, dif_pos hlt, hlen] at h
    obtain ⟨hrest, hmain⟩ := runs_then (q' := recvAt (n + 1)) h (runs_recv_word ⟨n, hlt⟩ (MainFor_mono h) hrxf) rfl rfl rfl
    rw [hlen, hrest, ih (n + 1) _ (by omega) hmain rfl]
    simp [spent, storeBytes, hlt, Nat.add_assoc, Nat.add_comm 1]

/-- The state when `Receive` has taken every word there was. -/
def received (s : State) : State :=
  { spent (3 * s.rxf.length + 1) s with
    cmd := storeBytes s.rxf 0 s.cmd, rxf := [], seq := recvAt s.rxf.length }

/-- From its first look on: one turn sees a word, three each take them. -/
theorem runs_recv_entry (h : MainFor (3 * s.rxf.length + k + 1) (.recv .entry) s) (hne : s.rxf ≠ [])
    (hle : s.rxf.length ≤ 8) :
    runs (3 * s.rxf.length + k + 1) s = runs k (received s) ∧ MainFor k (recvAt s.rxf.length) (received s) := by
  obtain ⟨h1, h⟩ := recv_turn h (recvStep_entry_of_word hne) rfl rfl
  have hwords : runs (3 * s.rxf.length) (goTo (.recv (.cs 0)) (spent 1 s)) = .next (received s) := by
    rw [runs_recv_words s.rxf 0 (goTo (.recv (.cs 0)) (spent 1 s)) (by omega) (MainFor_mono h) rfl]
    simp [received, goTo, spent]
  have htape : (received s).tape = (spent 1 s).tape.drop (3 * s.rxf.length) := by simp [received, spent]
  obtain ⟨h2, hmain⟩ := runs_then h hwords rfl rfl htape
  exact ⟨h1.trans h2, hmain⟩

/-- Eight words fill `CMD`. -/
theorem storeBytes_eight (w0 w1 w2 w3 w4 w5 w6 w7 : Word) (c : Vector Byte 8) :
    storeBytes [w0, w1, w2, w3, w4, w5, w6, w7] 0 c =
      #v[w0.setWidth 8, w1.setWidth 8, w2.setWidth 8, w3.setWidth 8, w4.setWidth 8, w5.setWidth 8, w6.setWidth 8,
        w7.setWidth 8] := by
  ext i hi
  interval_cases i <;> simp [storeBytes]

end Receiving

/-- Settles O18: one turn sees the first word, 24 take the eight, and two find the exchange over. -/
theorem receiveTakesAWholeFrame : Obligations.ReceiveTakesAWholeFrame := by
  refine ⟨fun s w0 w1 w2 w3 w4 w5 w6 w7 h hcs hrxf => ?_, fun s h hne => ?_, fun s i w ws h hrxf => runs_recv_word i h hrxf⟩
  · have hlen : s.rxf.length = 8 := by simp [hrxf]
    have hcmd := storeBytes_eight w0 w1 w2 w3 w4 w5 w6 w7 s.cmd
    have hsum : 27 = 3 * s.rxf.length + 2 + 1 := by omega
    rw [hsum] at h ⊢
    obtain ⟨hrun, hmain⟩ := runs_recv_entry h (List.ne_nil_of_length_pos (by omega)) hlen.le
    rw [hlen] at hmain
    rw [hrun, runs_drain_end (r := .received) hmain hcs rfl]
    simp [afterDrain, goTo, received, spent, hrxf, hcmd]
  · rw [step_recv h, recvStep_entry_of_word (by exact hne)]
    rfl

/-- Settles O19: after 1 to 7 words the next look finds neither a word nor chip-select. -/
theorem noPartialCommandIsDispatched : Obligations.NoPartialCommandIsDispatched := by
  refine ⟨fun s h hrxf => ?_, fun s h hcs hne hlt => ⟨storeBytes s.rxf 0 s.cmd, ?_⟩, fun s i h hcs hrxf => ?_⟩
  · rw [step_recv h, recvStep_entry_of_nil (by exact hrxf)]
    rfl
  · obtain ⟨hrun, hmain⟩ := runs_recv_entry (k := 2) h hne hlt.le
    rw [recvAt, dif_pos hlt] at hmain
    obtain ⟨h1, h⟩ := recv_turn hmain (recvStep_cs _ hcs) rfl rfl
    obtain ⟨h2, -⟩ := recv_turn h (recvStep_rx_of_deasserted _ rfl) rfl rfl
    rw [hrun, h1, h2, runs_zero]
    simp [goTo, received, spent]
  · have hq : s.seq = .recv (.cs i) := h.1
    obtain ⟨h1, h⟩ := recv_turn h (recvStep_cs i hcs) rfl rfl
    obtain ⟨h2, -⟩ := recv_turn h (recvStep_rx_of_asserted i hrxf) rfl rfl
    rw [h1, h2, runs_zero]
    simp [goTo, spent, hq]

end Sys2Proof.Machine

namespace Sys2Proof.Machine

open Sys2Proof.Safety

/-! ### The positions of a capture (R201 steps 4 to 8) -/

section CapturePositions

variable {s : State} {p : Params}

theorem captureStep_waitCs_of_asserted (h : s.cs = true) :
    captureStep p .waitCs s = .next (goTo (.cap .enable) s) := by
  rw [captureStep, csAsserted_eq, if_pos h]

theorem captureStep_waitCs_of_deasserted (h : s.cs = false) :
    captureStep p .waitCs s = .next (goTo (.cap .waitCs) s) := by
  rw [captureStep, csAsserted_eq, if_neg (by simp [h])]

theorem captureStep_poll_of_latched (k : Nat) (h : s.timer.cap ≠ 0) :
    captureStep p (.poll k) s = .next (enterExchange p s.timer.cap .success s) := by
  rw [captureStep, if_pos h]

theorem captureStep_poll_of_zero (k : Nat) (h : s.timer.cap = 0) :
    captureStep p (.poll k) s =
      .next (goTo (if k + 1 < p.capturePollReads then .cap (.poll (k + 1)) else .cap .pollCs) s) := by
  rw [captureStep, if_neg (by simp [h])]

theorem captureStep_pollCs {cs : Bool} (h : s.cs = cs) :
    captureStep p .pollCs s = .next (goTo (.cap (.pollRx cs)) s) := by
  rw [captureStep, csAsserted_eq, h]

/-- A word in `RXF`, or chip-select seen deasserted: the first edge was missed (R206). -/
theorem captureStep_pollRx_of_missed {cs : Bool} (h : s.rxf ≠ [] ∨ cs = false) :
    captureStep p (.pollRx cs) s = .next (goTo (.cap .approximate) s) := by
  rw [captureStep, if_pos (by simpa using h)]

theorem captureStep_pollRx_of_quiet (h : s.rxf = []) :
    captureStep p (.pollRx true) s = .next (goTo (.cap (.poll 0)) s) := by
  rw [captureStep, if_neg (by simpa using h)]

theorem captureStep_cs {cs : Bool} (h : s.cs = cs) : captureStep p .cs s = .next (goTo (.cap (.rx cs)) s) := by
  rw [captureStep, csAsserted_eq, h]

theorem captureStep_rx_of_word (cs : Bool) (h : s.rxf ≠ []) :
    captureStep p (.rx cs) s = .next (goTo (.cap .pop) s) := by
  rw [captureStep, if_pos ((rxNotEmpty_iff s).2 h)]

theorem captureStep_rx_of_asserted (h : s.rxf = []) : captureStep p (.rx true) s = .next (goTo (.cap .space) s) := by
  rw [captureStep, if_neg (by simpa using h), if_pos rfl]

theorem captureStep_rx_of_deasserted (h : s.rxf = []) : captureStep p (.rx false) s = .next (endExchange p s) := by
  rw [captureStep, if_neg (by simpa using h), if_neg (by decide)]

theorem captureStep_pop {w : Word} {ws : List Word} (h : s.rxf = w :: ws) :
    captureStep p .pop s = .next { s with rxf := ws, cap := acceptWord p w s.cap, seq := .cap .space } := by
  rw [captureStep, rxPop_of_cons h]

theorem captureStep_space_of_room (h : s.txf.length < 8) : captureStep p .space s = .next (goTo (.cap .push) s) := by
  rw [captureStep, if_pos ((txNotFull_iff s).2 h)]

theorem captureStep_space_of_full (h : 8 ≤ s.txf.length) : captureStep p .space s = .next (goTo (.cap .cs) s) := by
  rw [captureStep, if_neg (by simpa using h)]

/-- The next pattern word goes in uncut, for it is cut already (R203). -/
theorem captureStep_push (hroom : s.txf.length < 8) (hbits : s.cap.bits = s.link.bits) :
    captureStep p .push s =
      .next { s with
        txf := s.txf ++ [nextSendWord s.cap]
        cap := { s.cap with txIndex := s.cap.txIndex + 1 }
        seq := .cap .cs } := by
  rw [captureStep, txPush_of_room hroom, ← hbits, nextSendWord, patternWord_and_mask]
  rfl

theorem endExchange_of_success (h : s.cap.status = .success) : endExchange p s = goTo (.cap .secondCapture) s := by
  rw [endExchange, h]

/-- Without a first edge the status stays and the duration is free (R201 step 7, U1). -/
theorem endExchange_of_missed (h : s.cap.status = .edgeNotDetected) :
    endExchange p s = { s with
      transferResult := captureResult p s.cap (Config.freeTicks s.draws) .edgeNotDetected
      draws := s.draws + 1
      seq := .cap .exitTimer } := by
  have hcap : { s.cap with status := .edgeNotDetected } = s.cap := by rw [← h]
  rw [endExchange, h]
  simp [storeCaptureFree, storeCapture, hcap]

/-- With the counter stopped by the overflow match the duration is free (R214). -/
theorem captureStep_overflowTest_of_running (cap2 : U32) (h : s.timer.en = true) :
    captureStep p (.overflowTest cap2) s = .next (storeCapture p (cap2 - s.cap.cap1) .success s) := by
  rw [captureStep, if_pos h]

theorem captureStep_overflowTest_of_stopped (cap2 : U32) (h : s.timer.en = false) :
    captureStep p (.overflowTest cap2) s = .next (storeCaptureFree p .overflow s) := by
  rw [captureStep, if_neg (by simp [h])]

end CapturePositions

/-- Settles O25: each clause runs the turns of its positions. -/
theorem captureFindsTheFirstEdge : Obligations.CaptureFindsTheFirstEdge := by
  intro s
  refine ⟨fun k h hcap => ?latched, fun k h hcap => ?zero, fun h hmiss => ?missed, fun h hrxf hcs => ?quiet,
    fun h hcs => ?waits, fun h hcs => ?starts⟩
  case latched =>
    rw [step_capture h, captureStep_poll_of_latched k (by exact hcap)]
    rfl
  case zero =>
    rw [step_capture h, captureStep_poll_of_zero k (by exact hcap)]
    rfl
  case missed =>
    obtain ⟨h1, h⟩ := capture_turn h (captureStep_pollCs rfl) rfl rfl
    obtain ⟨h2, h⟩ := capture_turn h (captureStep_pollRx_of_missed hmiss) rfl rfl
    obtain ⟨h3, -⟩ := capture_turn h rfl rfl rfl
    rw [h1, h2, h3, runs_zero]
    simp [enterExchange, goTo, spent]
  case quiet =>
    obtain ⟨h1, h⟩ := capture_turn h (captureStep_pollCs hcs) rfl rfl
    obtain ⟨h2, -⟩ := capture_turn h (captureStep_pollRx_of_quiet hrxf) rfl rfl
    rw [h1, h2, runs_zero]
    simp [goTo, spent]
  case waits =>
    rw [step_capture h, captureStep_waitCs_of_deasserted (s := spent 1 s) hcs, goTo_of_seq_eq (s := spent 1 s) h.1]
  case starts =>
    obtain ⟨h1, h⟩ := capture_turn h (captureStep_waitCs_of_asserted hcs) rfl rfl
    obtain ⟨h2, -⟩ := capture_turn h rfl rfl rfl
    rw [h1, h2, runs_zero]
    simp [goTo, setCounterEnable, spent]

/-- A received word's bytes, low byte first, and the high byte where the word has one (R211). -/
theorem crcFold_checksumBytes (v : CrcVariant) (bits : BitVec 5) (c : BitVec 16) (w : Word) :
    crcFold v c (checksumBytes bits w) =
      if 8 < bits.toNat then crcByte v (crcByte v c (w.setWidth 8)) ((w >>> 8).setWidth 8)
      else crcByte v c (w.setWidth 8) := by
  have hlow : byteOf w 0 = w.setWidth 8 := by
    apply BitVec.eq_of_toNat_eq
    simp [byteOf_toNat]
  have hhigh : byteOf w 1 = (w >>> 8).setWidth 8 := by
    apply BitVec.eq_of_toNat_eq
    simp [byteOf_toNat, Nat.shiftRight_eq_div_pow]
  rw [checksumBytes, hlow, hhigh]
  split_ifs <;> rfl

/-- Only the first mismatch is kept (R212). -/
theorem mismatchAfter_eq_ite (c : CaptureRegs) (w : Word) :
    mismatchAfter c w =
      if c.mismatch = none ∧ w ≠ c.rxValue.setWidth 16 &&& mask c.bits then some (c.rxValue - c.send0.setWidth 32)
      else c.mismatch := by
  rw [mismatchAfter, expectedWord, elementIndex]
  cases c.mismatch with
  | some k => simp
  | none => by_cases h : w = c.rxValue.setWidth 16 &&& mask c.bits <;> simp [h]

/-- Settles O26: each clause runs the turns of its positions; the word popped is folded, compared and counted by
`acceptWord`. -/
theorem captureTakesOneWord : Obligations.CaptureTakesOneWord := by
  refine ⟨fun s w ws h hrxf => ?word, fun s h hrxf hcs => ?none, fun s h hfull => ?full, fun s h hroom hbits hle => ?refill⟩
  case word =>
    have hne : s.rxf ≠ [] := by simp [hrxf]
    obtain ⟨h1, h⟩ := capture_turn h (captureStep_cs rfl) rfl rfl
    obtain ⟨h2, h⟩ := capture_turn h (captureStep_rx_of_word _ hne) rfl rfl
    obtain ⟨h3, -⟩ := capture_turn h (captureStep_pop hrxf) rfl rfl
    rw [h1, h2, h3, runs_zero, ← crcFold_checksumBytes, ← mismatchAfter_eq_ite]
    simp [acceptWord, goTo, spent]
  case none =>
    obtain ⟨h1, h⟩ := capture_turn h (captureStep_cs hcs) rfl rfl
    obtain ⟨h2, -⟩ := capture_turn h (captureStep_rx_of_asserted hrxf) rfl rfl
    rw [h1, h2, runs_zero]
    simp [goTo, spent]
  case full =>
    rw [step_capture h, captureStep_space_of_full (by exact hfull)]
    rfl
  case refill =>
    obtain ⟨h1, h⟩ := capture_turn h (captureStep_space_of_room hroom) rfl rfl
    obtain ⟨h2, -⟩ := capture_turn h (captureStep_push hroom hbits) rfl rfl
    refine ⟨nextSendWord s.cap, ?_, ?_⟩
    · rw [← hbits] at hle ⊢
      exact patternWord_toNat hle _ _
    · rw [h1, h2, runs_zero]
      simp [goTo, spent]

/-- Settles O28: the loop ends by the status of the first capture, and each result is stored with the fields of R215. -/
theorem captureStoresTheResult : Obligations.CaptureStoresTheResult := by
  refine ⟨fun s cap2 h hen => ?success, fun s cap2 h hen => ⟨Config.freeTicks s.draws, ?overflow⟩,
    fun s h hrxf hst => ⟨Config.freeTicks s.draws, ?missed⟩, fun s h hrxf hst => ?second⟩
  case success =>
    rw [step_capture h, captureStep_overflowTest_of_running cap2 (by exact hen)]
    rfl
  case overflow =>
    rw [step_capture h, captureStep_overflowTest_of_stopped cap2 (by exact hen)]
    rfl
  case missed =>
    rw [step_capture h, captureStep_rx_of_deasserted (by exact hrxf), endExchange_of_missed (by exact hst)]
    rfl
  case second =>
    have hend : captureStep Config.machine (.rx false) (spent 1 s) = .next (goTo (.cap .secondCapture) (spent 1 s)) := by
      rw [captureStep_rx_of_deasserted (by exact hrxf), endExchange_of_success (by exact hst)]
    obtain ⟨h1, h⟩ := capture_turn h hend rfl rfl
    obtain ⟨h2, -⟩ := capture_turn h rfl rfl rfl
    rw [h1, h2, runs_zero]
    simp [goTo, spent]

end Sys2Proof.Machine

namespace Sys2Proof.Machine

open Sys2Proof.Safety

/-! ### The positions of a periodic session (R241) -/

section SessionTurns

variable {s t : State} {k : Nat} {p : Params}

/-- A turn inside a session away from Classify, and what it leaves to be run. -/
theorem periodic_turn {pt : PerPt} (h : MainFor (k + 1) (.per pt) s) (hpt : pt ≠ .classify)
    (ht : periodicStep Config.machine pt (spent 1 s) = .next t) (hh : t.handler = s.handler)
    (htape : t.tape = s.tape.drop 1) : runs (k + 1) s = runs k t ∧ MainFor k t.seq t :=
  main_turn h (by rw [step_periodic h hpt, ht]) hh htape

theorem periodicStep_awaitCs {cs : Bool} (h : s.cs = cs) :
    periodicStep p .awaitCs s = .next (goTo (.per (.awaitRx cs)) s) := by
  rw [periodicStep, csAsserted_eq, h]

theorem periodicStep_awaitRx_of_word (cs : Bool) (h : s.rxf ≠ []) :
    periodicStep p (.awaitRx cs) s = .next (goTo (.per .awaitPop) s) := by
  rw [periodicStep, if_pos ((rxNotEmpty_iff s).2 h)]

theorem periodicStep_awaitRx_of_asserted (h : s.rxf = []) :
    periodicStep p (.awaitRx true) s = .next (goTo (.per .awaitCs) s) := by
  rw [periodicStep, if_neg (by simpa using h), if_pos rfl]

theorem periodicStep_awaitRx_of_deasserted (h : s.rxf = []) :
    periodicStep p (.awaitRx false) s = .next (goTo (.per (.unmask true)) (raiseAnomaly .incompleteReceive s)) := by
  rw [periodicStep, if_neg (by simpa using h), if_neg (by decide)]

theorem periodicStep_respondCs_of_asserted (i : Nat) (h : s.cs = true) :
    periodicStep p (.respondCs i) s = .next (goTo (.per (.respondEmpty i)) s) := by
  rw [periodicStep, csAsserted_eq, if_pos h]

theorem periodicStep_respondCs_of_deasserted (i : Nat) (h : s.cs = false) :
    periodicStep p (.respondCs i) s =
      .next (goTo (.drain (.responded true) .cs) (raiseAnomaly .incompleteTransmit s)) := by
  rw [periodicStep, csAsserted_eq, if_neg (by simp [h])]

theorem periodicStep_respondEmpty_of_empty (i : Nat) (h : s.txf = []) :
    periodicStep p (.respondEmpty i) s =
      .next (goTo (.drain (.responded true) .cs) (raiseAnomaly .transmitUnderrun s)) := by
  rw [periodicStep, if_pos ((txEmpty_iff s).2 h)]

theorem periodicStep_respondEmpty_of_word (i : Nat) (h : s.txf ≠ []) :
    periodicStep p (.respondEmpty i) s = .next (goTo (.per (.respondSpace i)) s) := by
  rw [periodicStep, if_neg (by simpa using h)]

theorem periodicStep_respondSpace_of_room (i : Nat) (h : s.txf.length < 8) :
    periodicStep p (.respondSpace i) s = .next (goTo (.per (.respondPush i)) s) := by
  rw [periodicStep, if_pos ((txNotFull_iff s).2 h)]

theorem periodicStep_respondSpace_of_full (i : Nat) (h : 8 ≤ s.txf.length) :
    periodicStep p (.respondSpace i) s = .next (goTo (.per (.respondCs i)) s) := by
  rw [periodicStep, if_neg (by simpa using h)]

theorem periodicStep_respondPush (i : Nat) (hroom : s.txf.length < 8) (hbits : s.link.bits = 8) :
    periodicStep p (.respondPush i) s =
      .next { s with
        txf := s.txf ++ [(s.reply.getD i 0).setWidth 16]
        seq := if i + 1 < 8 then .per (.respondCs (i + 1)) else .drain (.responded false) .cs } := by
  rw [periodicStep, txPush_byte hroom hbits]
  rfl

end SessionTurns

/-- Settles O33: the eight turns of arming, in R241's order. -/
theorem armingProgramsTheTimer : Obligations.ArmingProgramsTheTimer := by
  refine ⟨fun s h => ?_, fun s h => ?_⟩
  · obtain ⟨h1, h⟩ := periodic_turn h (by decide) rfl rfl rfl
    obtain ⟨h2, h⟩ := periodic_turn h (by decide) rfl rfl rfl
    obtain ⟨h3, h⟩ := periodic_turn h (by decide) rfl rfl rfl
    obtain ⟨h4, h⟩ := periodic_turn h (by decide) rfl rfl rfl
    obtain ⟨h5, h⟩ := periodic_turn h (by decide) rfl rfl rfl
    obtain ⟨h6, h⟩ := periodic_turn h (by decide) rfl rfl rfl
    obtain ⟨h7, -⟩ := periodic_turn h (by decide) rfl rfl rfl
    rw [h1, h2, h3, h4, h5, h6, h7, runs_zero]
    simp [goTo, timerReset, setPeriod, setPeriodEnable, setIrqEnable, pinSelect, setEdgeEnable, setIndicator, spent]
  · rw [step_periodic h (by decide)]
    rfl

/-! #### One pass of Running (R250 to R252) -/

/-- The state when `k` turns have queued `k` filler bytes, into an empty `TXF`. -/
def filled (s : State) (k : Nat) : State :=
  { spent k s with
    txf := List.replicate k (Config.machine.fillerByte.setWidth 16)
    seq := if k < 8 then .per (.fill k) else .per .edgeClear }

theorem periodicStep_fill {s : State} {k : Nat} (hk : k < 8) (hbits : s.link.bits = 8) :
    periodicStep Config.machine (.fill k) (spent 1 (filled s k)) = .next (filled s (k + 1)) := by
  have hroom : (spent 1 (filled s k)).txf.length < 8 := List.length_replicate.trans_lt hk
  rw [periodicStep, txPush_byte hroom hbits]
  simp [onNext, goTo, filled, spent, List.replicate_succ']

/-- Eight turns queue the filler bytes. -/
theorem runs_fill {s : State} (h : MainFor 8 (.per (.fill 0)) s) (htxf : s.txf = []) (hbits : s.link.bits = 8) :
    runs 8 s = .next (filled s 8) := by
  have hzero : filled s 0 = s := by
    rw [filled, if_pos (by decide), ← h.1, List.replicate_zero, ← htxf]
    rfl
  have hturns : ∀ k < 8, step (filled s k) = .next (filled s (k + 1)) := fun k hk => by
    have hsum : 8 = k + (7 - k + 1) := by omega
    rw [hsum] at h
    have hmain : MainFor (7 - k + 1) (.per (.fill k)) (filled s k) := MainFor_of_spent h (if_pos hk) rfl rfl
    rw [step_periodic hmain (by simp), periodicStep_fill hk hbits]
  have hruns := runs_of_steps hturns
  rwa [hzero] at hruns

/-- Settles O34: a clear, eight filler bytes, and the edge status. -/
theorem runningPassPreloadsFiller : Obligations.RunningPassPreloadsFiller := by
  intro s h hbits
  obtain ⟨h1, h⟩ := periodic_turn h (by decide) rfl rfl rfl
  obtain ⟨h2, h⟩ := runs_then (j := 8) (k := 1) (q' := .per .edgeClear) h
    (runs_fill (MainFor_mono (j := 8) (k := 1) h) rfl hbits) rfl rfl rfl
  obtain ⟨h3, -⟩ := periodic_turn h (by decide) rfl rfl rfl
  rw [h1, h2, h3, runs_zero]
  simp [goTo, fifoClear, edgeClear, filled, spent]

/-! #### Acknowledgements in their windows (R280) -/

/-- One acknowledgement after one edge, when the one before it was answered: it is on time, and answered. -/
theorem acknowledge_next_edge (p : Params) {s : State} (hpos : s.countdown.toNat ≠ 0)
    (hlast : s.per.lastAck = s.countdown) :
    let t := acknowledge p { s with countdown := s.countdown - 1 }
    t.per.before = s.per.before + 1 ∧ t.per.after = s.per.after ∧ t.per.dup = s.per.dup ∧
      t.countdown.toNat = s.countdown.toNat - 1 ∧ t.per.lastAck = t.countdown := by
  have hdown : (s.countdown - 1).toNat = s.countdown.toNat - 1 := by bv_omega
  have hone : s.per.lastAck.toNat = (s.countdown - 1).toNat + 1 := by
    rw [hlast, hdown]
    omega
  intro t
  have ht : t = _ := acknowledge_onTime (s := { s with countdown := s.countdown - 1 }) p hone
  rw [ht]
  exact ⟨rfl, rfl, rfl, hdown, rfl⟩

/-- Settles O37: an induction over the edges, each of which finds the last answered. -/
theorem acknowledgingEveryEdgeCountsEveryEdge : Obligations.AcknowledgingEveryEdgeCountsEveryEdge := by
  intro p s n hn hlast
  induction n with
  | zero => simp [hlast]
  | succ n ih =>
    obtain ⟨hbefore, hafter, hdup, hcount, hlast'⟩ := ih (by omega)
    rw [Function.iterate_succ_apply']
    generalize (fun u : State => acknowledge p { u with countdown := u.countdown - 1 })^[n] s = u at *
    obtain ⟨hbefore1, hafter1, hdup1, hcount1, hlast1⟩ := acknowledge_next_edge p (by omega) hlast'
    refine ⟨?_, hafter1.trans hafter, hdup1.trans hdup, ?_, hlast1⟩
    · rw [hbefore1, hbefore, BitVec.ofNat_add]
      exact BitVec.add_assoc ..
    · rw [hcount1, hcount, Nat.sub_sub]

/-! #### AwaitAck, Respond and Draining (R255 to R266, R275) -/

/-- Settles O38: each clause runs the turns of its positions, in the order of their tests. -/
theorem respondQueuesOrRaises : Obligations.RespondQueuesOrRaises := by
  intro s i
  refine ⟨fun h hrxf => ?word, fun h hrxf hcs => ?waits, fun h hrxf hcs => ?gone, fun h hcs => ?cut,
    fun h hcs htxf => ?underrun, fun h hcs htxf hroom hbits => ?queues, fun h hcs hfull => ?full, fun abort h => ?unmask⟩
  case word =>
    obtain ⟨h1, h⟩ := periodic_turn h (by decide) (periodicStep_awaitCs rfl) rfl rfl
    obtain ⟨h2, -⟩ := periodic_turn h (by simp) (periodicStep_awaitRx_of_word _ hrxf) rfl rfl
    rw [h1, h2, runs_zero]
    simp [goTo, spent]
  case waits =>
    have hq : s.seq = .per .awaitCs := h.1
    obtain ⟨h1, h⟩ := periodic_turn h (by decide) (periodicStep_awaitCs hcs) rfl rfl
    obtain ⟨h2, -⟩ := periodic_turn h (by decide) (periodicStep_awaitRx_of_asserted hrxf) rfl rfl
    rw [h1, h2, runs_zero]
    simp [goTo, spent, hq]
  case gone =>
    obtain ⟨h1, h⟩ := periodic_turn h (by decide) (periodicStep_awaitCs hcs) rfl rfl
    obtain ⟨h2, -⟩ := periodic_turn h (by decide) (periodicStep_awaitRx_of_deasserted hrxf) rfl rfl
    rw [h1, h2, runs_zero]
    simp [goTo, raiseAnomaly, Anomaly.bit, spent]
  case cut =>
    rw [runs_one, step_periodic h (by simp), periodicStep_respondCs_of_deasserted i (by exact hcs)]
    rfl
  case underrun =>
    obtain ⟨h1, h⟩ := periodic_turn h (by simp) (periodicStep_respondCs_of_asserted i hcs) rfl rfl
    obtain ⟨h2, -⟩ := periodic_turn h (by simp) (periodicStep_respondEmpty_of_empty i htxf) rfl rfl
    rw [h1, h2, runs_zero]
    simp [goTo, raiseAnomaly, Anomaly.bit, spent]
  case queues =>
    obtain ⟨h1, h⟩ := periodic_turn h (by simp) (periodicStep_respondCs_of_asserted i hcs) rfl rfl
    obtain ⟨h2, h⟩ := periodic_turn h (by simp) (periodicStep_respondEmpty_of_word i htxf) rfl rfl
    obtain ⟨h3, h⟩ := periodic_turn h (by simp) (periodicStep_respondSpace_of_room i hroom) rfl rfl
    obtain ⟨h4, -⟩ := periodic_turn h (by simp) (periodicStep_respondPush i hroom hbits) rfl rfl
    rw [h1, h2, h3, h4, runs_zero]
    simp [goTo, spent]
  case full =>
    have hq : s.seq = .per (.respondCs i) := h.1
    have htxf : s.txf ≠ [] := List.ne_nil_of_length_pos (by omega)
    obtain ⟨h1, h⟩ := periodic_turn h (by simp) (periodicStep_respondCs_of_asserted i hcs) rfl rfl
    obtain ⟨h2, h⟩ := periodic_turn h (by simp) (periodicStep_respondEmpty_of_word i htxf) rfl rfl
    obtain ⟨h3, -⟩ := periodic_turn h (by simp) (periodicStep_respondSpace_of_full i hfull) rfl rfl
    rw [h1, h2, h3, runs_zero]
    simp [goTo, spent, hq]
  case unmask =>
    rw [step_periodic h (by simp)]
    rfl

/-- Settles O40: the six turns of Draining, in R275's order. -/
theorem drainingRestoresEveryUnit : Obligations.DrainingRestoresEveryUnit := by
  intro s h
  refine ⟨_, ?_, edgeOut_of_emo ?_, rfl⟩
  · obtain ⟨h1, h⟩ := periodic_turn h (by decide) rfl rfl rfl
    obtain ⟨h2, h⟩ := periodic_turn h (by decide) rfl rfl rfl
    obtain ⟨h3, h⟩ := periodic_turn h (by decide) rfl rfl rfl
    obtain ⟨h4, h⟩ := periodic_turn h (by decide) rfl rfl rfl
    obtain ⟨h5, h⟩ := periodic_turn h (by decide) rfl rfl rfl
    obtain ⟨h6, -⟩ := periodic_turn h (by decide) rfl rfl rfl
    rw [h1, h2, h3, h4, h5, h6, runs_zero]
    simp [goTo, setEdgeEnable, edgeClear, timerReset, edgeOutDeassert, pinSelect, setIndicator, spent]
  · rfl

end Sys2Proof.Machine

namespace Sys2Proof.Machine

open Sys2Proof.Safety

/-! ### The timer (R352 to R354) -/

section TimerTurns

variable {s : State} {rest : List Move} {u : Timer}

/-- At a period match the counter restarts, the output falls, and the interrupt is requested if it is enabled (R353). -/
theorem tickTimer_of_match (hper : u.perEn = true) (hmatch : u.cnt + 1 = u.per) :
    tickTimer u = { u with
      cnt := 0, emo := false, irqPend := u.irqPend || u.irqEn, en := !(u.ovfEn && decide ((0 : U32) = u.ovf)) } := by
  have hm : periodMatches u = true := by rw [periodMatches, hper, hmatch, decide_eq_true rfl]; rfl
  simp [tickTimer, overflowMatches, nextCount, hm, periodMatch]

theorem tickTimer_of_no_match (h : u.perEn = false ∨ u.cnt + 1 ≠ u.per) :
    tickTimer u = { u with cnt := u.cnt + 1, en := !(u.ovfEn && decide (u.cnt + 1 = u.ovf)) } := by
  have hm : periodMatches u = false := by simpa [periodMatches, imp_iff_not_or] using h
  simp [tickTimer, overflowMatches, nextCount, hm]

/-- One step on the timer's turn. -/
theorem step_tick (htape : s.tape = .tick :: rest) : step s = .next (tickStep { s with tape := rest }) := step_cons htape

theorem tickStep_of_enabled (hen : s.timer.en = true) : tickStep s = { s with timer := tickTimer s.timer } := if_pos hen

theorem tickStep_of_disabled (hen : s.timer.en = false) : tickStep s = s := if_neg (by simp [hen])

end TimerTurns

/-- Settles O41: the three cases of a tick. -/
theorem tickAdvancesTheTimer : Obligations.TickAdvancesTheTimer := by
  intro s rest htape
  rw [step_tick htape]
  refine ⟨fun hen => ?_, fun hen hper hmatch => ?_, fun hen hno => ?_⟩
  · rw [tickStep_of_disabled (by exact hen)]
  · rw [tickStep_of_enabled (by exact hen), tickTimer_of_match (by exact hper) (by exact hmatch)]
  · rw [tickStep_of_enabled (by exact hen), tickTimer_of_no_match (by exact hno)]

/-- A tape that begins with `n` turns of one kind, after the first `k` of them. -/
theorem drop_of_replicate {tape rest : List Move} {m : Move} {n k : Nat} (h : tape = List.replicate n m ++ rest)
    (hk : k < n) : tape.drop k = m :: tape.drop (k + 1) := by
  have hlen : k < tape.length := by
    rw [h, List.length_append, List.length_replicate]
    omega
  rw [List.drop_eq_getElem_cons hlen]
  simp [h, hk]

/-! #### One period (R245) -/

/-- The state after `n` ticks from a counter at 0, none of them a period match; `step_ticked` ties it to the model. -/
def ticked (s : State) (n : Nat) : State :=
  { s with tape := s.tape.drop n, timer := { s.timer with cnt := BitVec.ofNat 32 n } }

section OnePeriod

variable {s : State} {n k : Nat} {rest : List Move}

theorem ticked_zero (hcnt : s.timer.cnt = 0) : ticked s 0 = s := by
  have hzero : BitVec.ofNat 32 0 = s.timer.cnt := hcnt.symm
  rw [ticked, hzero]
  rfl

/-- The counter's next value is one more, and the period match comes when that is the period. -/
theorem ofNat_succ_eq_iff {per : U32} (hk : k < per.toNat) : BitVec.ofNat 32 k + 1 = per ↔ k + 1 = per.toNat := by
  have hlt := per.isLt
  have hofNat : (BitVec.ofNat 32 k + 1 : U32) = BitVec.ofNat 32 (k + 1) := (BitVec.ofNat_add ..).symm
  rw [hofNat, ← BitVec.toNat_inj, BitVec.toNat_ofNat, Nat.mod_eq_of_lt (by omega)]

/-- A tick that reaches no period match counts. -/
theorem step_ticked (htape : s.tape = List.replicate n .tick ++ rest) (hen : s.timer.en = true)
    (hovf : s.timer.ovfEn = false) (hk : k < n) (hlt : k + 1 < s.timer.per.toNat) :
    step (ticked s k) = .next (ticked s (k + 1)) := by
  have hhead : (ticked s k).tape = .tick :: s.tape.drop (k + 1) := drop_of_replicate htape hk
  have hno : BitVec.ofNat 32 k + 1 ≠ s.timer.per := (ofNat_succ_eq_iff (by omega)).not.2 hlt.ne
  rw [step_tick hhead, tickStep_of_enabled (by exact hen), tickTimer_of_no_match (.inr (by exact hno))]
  simp [ticked, hovf, hen, BitVec.ofNat_add]

theorem runs_ticks (htape : s.tape = List.replicate n .tick ++ rest) (hen : s.timer.en = true)
    (hovf : s.timer.ovfEn = false) (hcnt : s.timer.cnt = 0) (hn : n < s.timer.per.toNat) :
    runs n s = .next (ticked s n) := by
  have hruns := runs_of_steps fun k hk => step_ticked (k := k) htape hen hovf hk (by omega)
  rwa [ticked_zero hcnt] at hruns

/-- The tick that completes the period is the edge event. -/
theorem runs_period (htape : s.tape = List.replicate (k + 1) .tick ++ rest) (hen : s.timer.en = true)
    (hper : s.timer.perEn = true) (hovf : s.timer.ovfEn = false) (hcnt : s.timer.cnt = 0) (hirq : s.timer.irqEn = true)
    (hk : k + 1 = s.timer.per.toNat) :
    runs (k + 1) s =
      .next { s with tape := rest, timer := { s.timer with cnt := 0, emo := false, irqPend := true } } := by
  have hbefore : s.tape = List.replicate k .tick ++ (.tick :: rest) := by
    rw [htape, List.replicate_succ', List.append_assoc, List.singleton_append]
  have hlast : (ticked s k).tape = .tick :: rest := by simp [ticked, hbefore]
  have hmatch : BitVec.ofNat 32 k + 1 = s.timer.per := (ofNat_succ_eq_iff (by omega)).2 hk
  rw [runs_add (runs_ticks hbefore hen hovf hcnt (by omega)), runs_one, step_tick hlast,
    tickStep_of_enabled (by exact hen), tickTimer_of_match (by exact hper) (by exact hmatch)]
  simp [ticked, hovf, hen, hirq]

end OnePeriod

/-- Settles O42: the ticks below the period count, and the one that reaches it is the edge event. -/
theorem edgeEventComesAfterOnePeriod : Obligations.EdgeEventComesAfterOnePeriod := by
  refine ⟨fun s n rest htape hen hper hovf hcnt hirq => ⟨fun hn => ?_, fun hn hne => ?_⟩, fun s => ?_⟩
  · rw [runs_ticks htape hen hovf hcnt hn]
    simp [ticked, htape]
  · obtain ⟨k, rfl⟩ := Nat.exists_eq_succ_of_ne_zero hne
    refine ⟨_, runs_period htape hen hper hovf hcnt hirq hn, ?_, rfl⟩
    cases hpin : s.pinFunc <;> simp [edgeOut]
  · exact ⟨fun hpin => by rw [edgeOut, hpin], fun hpin => by rw [edgeOut, hpin]⟩

/-! ### The handler (R345 to R348) -/

section HandlerTurns

variable {s : State} {rest : List Move}

/-- One step on the handler's turn. -/
theorem step_handler (htape : s.tape = .handler :: rest) : step s = .next (handlerStep { s with tape := rest }) :=
  step_cons htape

theorem handlerStep_of_mayStart (hh : s.handler = .notRunning) (hpend : s.timer.irqPend = true)
    (hen : s.timer.irqEn = true) (hmask : s.imask = false) : handlerStep s = enterHandler s := by
  rw [handlerStep_of_notRunning hh, if_pos ((handlerMayStart_iff s).2 ⟨hpend, hen, hmask⟩)]

/-- Every edge but the last: the handler counts it and returns (R346). -/
theorem handlerStep_decrement_of_ne_one (hh : s.handler = .decrement) (hne : s.countdown ≠ 1) :
    handlerStep s = { s with countdown := s.countdown - 1, handler := .notRunning } := by
  have hrest : s.countdown - 1 ≠ 0 := fun h => hne (sub_eq_zero.1 h)
  rw [handlerStep, hh]
  simp only [handlerDecrement, if_neg hrest]
  rfl

/-- The last edge: the handler goes on to stop further ones (R346). -/
theorem handlerStep_decrement_of_one (hh : s.handler = .decrement) (hone : s.countdown = 1) :
    handlerStep s = { s with countdown := 0, handler := .stopPeriod } := by
  have hrest : s.countdown - 1 = 0 := by rw [hone]; rfl
  rw [handlerStep, hh]
  simp only [handlerDecrement, if_pos hrest]
  rw [hrest]

end HandlerTurns

/-- Settles O43: a turn of a handler at rest is its start, exactly on the condition of R345. -/
theorem handlerStartsExactlyWhenAllowed : Obligations.HandlerStartsExactlyWhenAllowed := by
  intro s rest htape hh
  rw [step_handler htape, handlerStep_of_notRunning (by exact hh)]
  exact congrArg _ (if_congr (handlerMayStart_iff { s with tape := rest }) rfl rfl)

/-- Settles O44: two turns for an edge that is not the last, four for the last. -/
theorem handlerCountsOneEdgeEvent : Obligations.HandlerCountsOneEdgeEvent := by
  intro s rest hh hpend hen hmask
  have hstart {l : List Move} (htape : s.tape = .handler :: l) : step s = .next (enterHandler { s with tape := l }) := by
    rw [step_handler htape, handlerStep_of_mayStart (by exact hh) (by exact hpend) (by exact hen) (by exact hmask)]
  refine ⟨fun hne htape => ?_, fun hone htape => ?_⟩
  · rw [runs_succ_next (hstart htape), runs_one, step_handler rfl,
      handlerStep_decrement_of_ne_one (by exact rfl) (by exact hne)]
    simp [enterHandler, hh]
  · rw [runs_succ_next (hstart htape), runs_succ_next (step_handler rfl),
      handlerStep_decrement_of_one (by exact rfl) (by exact hone), runs_succ_next (step_handler rfl), runs_one, step_handler rfl]
    simp [enterHandler, handlerStep, setPeriodEnable, setIrqEnable, returnFromHandler, hh]

end Sys2Proof.Machine

namespace Sys2Proof.Machine

open Sys2Proof.Safety

/-! ### A word on the link (R81 to R83) -/

section Words

variable {s : State} {c w : Word} {ws : List Word} {rest : List Move} {n k : Nat}

theorem wordStart_of_cons (hcs : s.cs = true) (hfree : s.link.inflight = false) (htxf : s.txf = w :: ws) :
    wordStart s =
      { s with txf := ws, link := { s.link with out := w, inflight := true, falls := s.link.bits } } := by
  rw [wordStart, if_pos (by simp [hcs, hfree]), htxf]

theorem wordStart_of_nil (hcs : s.cs = true) (hfree : s.link.inflight = false) (htxf : s.txf = []) :
    wordStart s = { s with
      draws := s.draws + 1
      link :=
        { s.link with out := Config.freeWord s.draws &&& mask s.link.bits, inflight := true, falls := s.link.bits } } := by
  rw [wordStart, if_pos (by simp [hcs, hfree]), htxf]

theorem sckFall_of_inflight (hin : s.link.inflight = true) (hfalls : s.link.falls ≠ 0) :
    sckFall s = { s with
      timer := captureLatch s.timer, edge := edgeDetect s.edge, link := { s.link with falls := s.link.falls - 1 } } :=
  if_pos (by simpa [hin] using hfalls)

theorem wordEnd_of_done (hin : s.link.inflight = true) (hfalls : s.link.falls = 0) :
    wordEnd c s = { s with
      rxf := if s.rxf.length < 8 then s.rxf ++ [c &&& mask s.link.bits] else s.rxf
      link := { s.link with inflight := false } } :=
  if_pos (by simp [hin, hfalls])

/-- One step on the controller's turn to start a word. -/
theorem step_wordStart (htape : s.tape = .wordStart :: rest) : step s = .next (wordStart { s with tape := rest }) :=
  step_cons htape

/-- One step on the controller's turn for a falling clock edge. -/
theorem step_sckFall (htape : s.tape = .sckFall :: rest) : step s = .next (sckFall { s with tape := rest }) :=
  step_cons htape

/-- One step on the controller's turn to end a word. -/
theorem step_wordEnd (htape : s.tape = .wordEnd c :: rest) : step s = .next (wordEnd c { s with tape := rest }) :=
  step_cons htape

/-- The state after `k` of a word's falling clock edges; `step_clocked` ties it to the model. -/
def clocked (s : State) (k : Nat) : State :=
  { s with
    tape := s.tape.drop k
    timer := captureLatch^[k] s.timer
    edge := edgeDetect^[k] s.edge
    link := { s.link with falls := s.link.falls - BitVec.ofNat 5 k } }

@[simp] theorem clocked_zero : clocked s 0 = s := by simp [clocked]

/-- Edges are left as long as fewer than the word's length have come. -/
theorem falls_sub_ne_zero {falls : BitVec 5} (hk : k < falls.toNat) : falls - BitVec.ofNat 5 k ≠ 0 := by
  have hlt := falls.isLt
  refine sub_ne_zero.2 fun h => ?_
  have hnat := congrArg BitVec.toNat h
  rw [BitVec.toNat_ofNat, Nat.mod_eq_of_lt (by omega)] at hnat
  omega

theorem step_clocked (htape : s.tape = List.replicate s.link.falls.toNat .sckFall ++ rest)
    (hin : s.link.inflight = true) (hk : k < s.link.falls.toNat) : step (clocked s k) = .next (clocked s (k + 1)) := by
  have hhead : (clocked s k).tape = .sckFall :: s.tape.drop (k + 1) := drop_of_replicate htape hk
  rw [step_sckFall hhead, sckFall_of_inflight (by exact hin) (falls_sub_ne_zero hk)]
  simp only [clocked, Function.iterate_succ_apply', BitVec.ofNat_add, sub_sub]
  rfl

theorem iterate_of_idem {α : Type} {f : α → α} (hf : ∀ x, f (f x) = f x) (hn : n ≠ 0) (x : α) : f^[n] x = f x := by
  obtain ⟨m, rfl⟩ := Nat.exists_eq_succ_of_ne_zero hn
  exact Function.iterate_fixed (hf x) m

/-- All the falling edges of a word: the first latches and detects, the others repeat it (R82). -/
theorem runs_sckFalls (hn : s.link.falls.toNat = n) (htape : s.tape = List.replicate n .sckFall ++ rest)
    (hin : s.link.inflight = true) (hne : s.link.falls ≠ 0) :
    runs n s = .next { s with
      tape := rest, timer := captureLatch s.timer, edge := edgeDetect s.edge, link := { s.link with falls := 0 } } := by
  subst hn
  have hpos : s.link.falls.toNat ≠ 0 := fun h => hne (BitVec.eq_of_toNat_eq h)
  have hruns := runs_of_steps (st := clocked s) fun k hk => step_clocked htape hin hk
  rw [clocked_zero] at hruns
  rw [hruns, clocked, iterate_of_idem captureLatch_idem hpos, iterate_of_idem edgeDetect_idem hpos, htape]
  simp

/-- The word's start, with its turn spent. -/
theorem step_wordStart_of_cons (htape : s.tape = .wordStart :: rest) (hcs : s.cs = true) (hfree : s.link.inflight = false)
    (htxf : s.txf = w :: ws) :
    step s = .next { s with
      tape := rest, txf := ws, link := { s.link with out := w, inflight := true, falls := s.link.bits } } := by
  rw [step_wordStart htape, wordStart_of_cons (by exact hcs) (by exact hfree) (by exact htxf)]

/-- The word's end while `RXF` has room, with its turn spent. -/
theorem step_wordEnd_of_room (htape : s.tape = .wordEnd c :: rest) (hin : s.link.inflight = true)
    (hfalls : s.link.falls = 0) (hroom : s.rxf.length < 8) :
    step s = .next { s with
      tape := rest, rxf := s.rxf ++ [c &&& mask s.link.bits], link := { s.link with inflight := false } } := by
  rw [step_wordEnd htape, wordEnd_of_done (by exact hin) (by exact hfalls), if_pos (by exact hroom)]

end Words

/-- Settles O45: the start, the falling edges together, the end. -/
theorem oneWordIsExchanged : Obligations.OneWordIsExchanged := by
  intro s c w ws rest htape hcs hfree htxf hroom hne
  rw [runs_succ_next (step_wordStart_of_cons htape hcs hfree htxf)]
  rw [runs_add (runs_sckFalls (by exact rfl) (by exact rfl) (by exact rfl) (by exact hne))]
  rw [runs_one, step_wordEnd_of_room rfl rfl rfl (by exact hroom), captureLatch_eq, edgeDetect_eq]
  simp [hfree]

/-- Settles O46: the word started on an empty `TXF` and the word ended on a full `RXF`. -/
theorem underrunAndOverrunGoOn : Obligations.UnderrunAndOverrunGoOn := by
  refine fun s rest => ⟨fun htape hcs hfree htxf => ?_, fun c htape hin hfalls hfull => ?_⟩
  · refine ⟨Config.freeWord s.draws &&& mask s.link.bits, and_mask_idem _ _, ?_⟩
    rw [step_wordStart htape, wordStart_of_nil (by exact hcs) (by exact hfree) (by exact htxf)]
  · rw [step_wordEnd htape, wordEnd_of_done (by exact hin) (by exact hfalls), if_neg (Nat.not_lt.2 hfull)]

/-- Settles O47: the three turns of the controller on chip-select. -/
theorem chipSelectMovesBetweenWords : Obligations.ChipSelectMovesBetweenWords := by
  refine fun s rest => ⟨fun htape hcs => ?_, fun htape hcs hfree => ?_, fun htape hin => ?_⟩ <;> rw [step_cons htape]
  · exact congrArg _ (if_neg (by simp [hcs]))
  · exact congrArg _ (if_pos (by simp [hcs, hfree]))
  · exact congrArg _ (if_neg (by simp [hin]))

end Sys2Proof.Machine

namespace Sys2Proof.Machine

open Sys2Proof.Safety

/-! ### `Init()` (R372) -/

section InitTurns

variable {s t : State} {k : Nat}

/-- One step on the main flow's turn inside `Init()`. -/
theorem step_init {pt : InitPt} (h : MainFor (k + 1) (.init pt) s) : step s = initStep Config.machine pt (spent 1 s) := by
  have hq : (spent 1 s).seq = .init pt := h.1
  rw [step_main h, mainFlow, hq]

/-- A turn inside `Init()`, and what it leaves to be run. -/
theorem init_turn {pt : InitPt} (h : MainFor (k + 1) (.init pt) s)
    (ht : initStep Config.machine pt (spent 1 s) = .next t) (hh : t.handler = s.handler) (htape : t.tape = s.tape.drop 1) :
    runs (k + 1) s = runs k t ∧ MainFor k t.seq t :=
  main_turn h (by rw [step_init h, ht]) hh htape

/-- The first primitive, with the register writes that go with it. -/
theorem initStep_link (hfree : s.link.inflight = false) :
    initStep Config.machine .link s = .next (goTo (.init .timerReset) { s with
      deviceInfo := deviceInfoOf Config.machine
      transferResult := TransferResult.zero
      isrResult := IsrResult.zero
      link := { s.link with mode := Config.machine.defaultMode, bits := 8 }
      txf := []
      rxf := [] }) := by
  rw [initStep, linkConfigureIdle_of_free _ machine_wf (by exact hfree)]
  rfl

end InitTurns

/-! #### The fields of `DEVICE_INFO` (R110) -/

section DeviceInfoFields

variable {p : Params}

theorem deviceInfoOf_maxClock (h : maxClockHz p < 2 ^ 32) : (deviceInfoOf p).maxClockFrequency.toNat = maxClockHz p := by
  rw [deviceInfoOf, maxClock, if_pos h, BitVec.toNat_ofNat, Nat.mod_eq_of_lt h]

/-- A well-formed configuration fits the three fields that hold its numbers. -/
theorem deviceInfoOf_toNat (hw : p.wf = true) :
    (deviceInfoOf p).measurementClockFrequency.toNat = p.fMeas ∧
      (deviceInfoOf p).minDataBitLength.toNat = p.minBits ∧ (deviceInfoOf p).maxDataBitLength.toNat = p.maxBits := by
  obtain ⟨⟨-, hclock⟩, -, ⟨hmin, -, hmax⟩, -⟩ := (params_wf_iff p).1 hw
  simp only [deviceInfoOf, BitVec.toNat_ofNat]
  omega

end DeviceInfoFields

/-- Settles O49: the eight turns of `Init()`, in R372's order. -/
theorem initEstablishesTheIdleState : Obligations.InitEstablishesTheIdleState := by
  intro s h hfree
  obtain ⟨hclock, hmin, hmax⟩ := deviceInfoOf_toNat machine_wf
  refine ⟨deviceInfoOf Config.machine, rfl, rfl, deviceInfoOf_maxClock, hclock, hmin, hmax, ?_⟩
  obtain ⟨h1, h⟩ := init_turn h (initStep_link (by exact hfree)) rfl rfl
  obtain ⟨h2, h⟩ := init_turn h rfl rfl rfl
  obtain ⟨h3, h⟩ := init_turn h rfl rfl rfl
  obtain ⟨h4, h⟩ := init_turn h rfl rfl rfl
  obtain ⟨h5, h⟩ := init_turn h rfl rfl rfl
  obtain ⟨h6, h⟩ := init_turn h rfl rfl rfl
  obtain ⟨h7, h⟩ := init_turn h rfl rfl rfl
  obtain ⟨h8, -⟩ := init_turn h rfl rfl rfl
  rw [h1, h2, h3, h4, h5, h6, h7, h8, runs_zero]
  simp [goTo, timerReset, setEdgeEnable, edgeClear, edgeOutDeassert, pinSelect, setIndicator, setIntMask, spent]

/-! ### The host's calls (R374, U8) -/

section HostCalls

variable {s : State} {rest : List Move}

/-- One step on the host's call of `Init()`. -/
theorem step_callInit (htape : s.tape = .callInit :: rest) : step s = hostInit { s with tape := rest } := step_cons htape

/-- One step on the host's call of `Poll()`. -/
theorem step_callPoll (htape : s.tape = .callPoll :: rest) : step s = hostPoll { s with tape := rest } := step_cons htape

/-- From the handler both calls are refused (U8). -/
theorem hostInit_of_running (h : s.handler ≠ .notRunning) : hostInit s = .refused .callFromHandler := if_pos h

theorem hostPoll_of_running (h : s.handler ≠ .notRunning) : hostPoll s = .refused .callFromHandler := if_pos h

theorem hostInit_of_notRunning (h : s.handler = .notRunning) :
    hostInit s = if s.seq = .reset then .next (goTo (.init .link) s) else .refused .initTwice :=
  if_neg (not_not.2 h)

theorem hostPoll_of_idle (h : s.handler = .notRunning) (hq : s.seq = .idle) :
    hostPoll s = .next (goTo (.recv .entry) s) := by
  rw [hostPoll, if_neg (not_not.2 h), hq]

theorem hostPoll_of_beforeInit (h : s.handler = .notRunning) (hq : s.seq = .reset ∨ ∃ p, s.seq = .init p) :
    hostPoll s = .refused .pollBeforeInit := by
  rw [hostPoll, if_neg (not_not.2 h)]
  obtain hq | ⟨p, hq⟩ := hq <;> rw [hq]

theorem hostPoll_of_polling (h : s.handler = .notRunning) (hidle : s.seq ≠ .idle) (hreset : s.seq ≠ .reset)
    (hinit : ∀ p, s.seq ≠ .init p) : hostPoll s = .refused .pollReentered := by
  rw [hostPoll, if_neg (not_not.2 h)]
  cases hq : s.seq with
  | reset => exact absurd hq hreset
  | init p => exact absurd hq (hinit p)
  | idle => exact absurd hq hidle
  | recv _ | drain _ _ | dispatch | send _ | cap _ | per _ => rfl

/-- Without a call the main flow waits (R370). -/
theorem mainFlow_of_waiting (h : s.seq = .reset ∨ s.seq = .idle) : mainFlow s = .next s := by
  obtain hq | hq := h <;> rw [mainFlow, hq]

end HostCalls

/-- Settles O50: the host's two calls by position, and the main flow's turn without one. -/
theorem hostCallsInitOnceThenPoll : Obligations.HostCallsInitOnceThenPoll := by
  refine fun s rest => ⟨fun htape hh => ?_, fun htape hh hq => ?_, fun htape hh hq => ?_,
    fun htape hh hidle hreset hinit => ?_, fun htape hh => ?_, fun h => ?_⟩
  · rw [step_callInit htape, hostInit_of_notRunning (by exact hh)]
    rfl
  · rw [step_callPoll htape, hostPoll_of_idle (by exact hh) (by exact hq)]
    rfl
  · rw [step_callPoll htape, hostPoll_of_beforeInit (by exact hh) (by exact hq)]
  · rw [step_callPoll htape, hostPoll_of_polling (by exact hh) (by exact hidle) (by exact hreset) (by exact hinit)]
  · obtain htape | htape := htape
    · rw [step_callInit htape, hostInit_of_running (by exact hh)]
    · rw [step_callPoll htape, hostPoll_of_running (by exact hh)]
  · obtain h | h := h
    · rw [step_main h, mainFlow_of_waiting (.inl (by exact h.1))]
    · rw [step_main h, mainFlow_of_waiting (.inr (by exact h.1))]

end Sys2Proof.Machine
